-- ==== Sys2Proof/Word.lean ====
section
/-! DEFINITION. The two word types of the machine (00_scope.md R8, R10): a byte and a 16-bit word. -/

namespace Sys2Proof

/-- The addressable unit, and the width of the eight general registers (00_scope.md R8). -/
abbrev Byte := BitVec 8

/-- The width of PC, SP, the register pairs and every address (00_scope.md R8). -/
abbrev Word := BitVec 16

/-- A resolved 32-bit frame-buffer colour (10_state.md R49). -/
abbrev Colour := BitVec 32

/-- The number of one of the four grey shades (60_exceptions.md R311). -/
abbrev Shade := BitVec 2

end Sys2Proof
end

