-- ==== Sys2Proof/Machine/Bits.lean ====
section
/-! DEFINITION. Bit fields, byte order and sign extension (00_scope.md R10, R11). -/

namespace Sys2Proof.Machine

/-- `{hi, lo}`: the word with `hi` in its high byte (R10). -/
def mkWord (hi lo : Byte) : Word := hi ++ lo

/-- `v[15:8]` (R10). -/
def hiByte (v : Word) : Byte := v.extractLsb' 8 8

/-- `v[7:0]` (R10). -/
def loByte (v : Word) : Byte := v.extractLsb' 0 8

/-- `sext_8(e)` as a 16-bit addend (R11): adding it modulo 65536 adds the signed value of `e`. -/
def sext8 (e : Byte) : Word := e.signExtend 16

/-- `v` with bit `i` set to `b` and every other bit kept (10_state.md R24). -/
def putBit (v : Byte) (i : Nat) (b : Bool) : Byte :=
  if b then v ||| (1#8 <<< i) else v &&& ~~~(1#8 <<< i)

/-- The low nibble `v & 0xF` as a number (41_alu8.md R170). -/
def nibble (v : Byte) : Nat := v.toNat % 16

/-- A flag as a byte, 0 or 1. -/
def bitByte (b : Bool) : Byte := if b then 1 else 0

end Sys2Proof.Machine
end

