-- ==== Sys2Proof/Config.lean ====
section
/-! DEFINITION. What no source fixes (00_scope.md R9): the byte a peripheral outside the block answers, and the four
grey colours. Both are free values: opaque constants with no body, so no proof can see what they are, and the type of
the second holds what R311 says of the four colours. The other two parameters of R9, the cartridge image and the
initial memory contents, are arguments of `Sys2Proof.Machine.construct`. -/

namespace Sys2Proof

/-- One access of the engine to an I/O address that belongs to a peripheral outside the block (20_memory.md R66).
A list of these is the `history` argument of `Config.ioExtRead`. -/
inductive IoEvent where
  /-- A read of the address. -/
  | read (addr : Word)
  /-- A write of the byte to the address; the block itself discards it. -/
  | write (addr : Word) (v : Byte)
deriving DecidableEq, Repr

/-- `IO_EXT_READ(addr, history)` (00_scope.md R9, 20_memory.md R66, 92_eei_decisions.md D18): the byte that a read of a
non-display I/O address returns, any byte. The history lists the earlier accesses, latest first; every read extends
it, so each read of a run is a fresh draw. Free value, log entry 3. -/
opaque Config.ioExtRead (history : List IoEvent) (addr : Word) : Byte

/-- Four grey colours for the shade numbers (60_exceptions.md R311, D22): each reads the same in red, green and blue,
and a higher shade number is strictly darker, so that the four are distinct, 0 the lightest and 3 the darkest. How a
32-bit colour is read as channels the spec does not say, so the reading belongs to the scale and is as free as the
colours. Log entry 9. -/
structure GreyScale where
  /-- The colour of a shade number. -/
  colour : Shade → Colour
  /-- How light a colour is in red. -/
  red : Colour → Nat
  /-- How light a colour is in green. -/
  green : Colour → Nat
  /-- How light a colour is in blue. -/
  blue : Colour → Nat
  /-- Every shade is a grey. -/
  grey : ∀ s, red (colour s) = green (colour s) ∧ green (colour s) = blue (colour s)
  /-- A higher shade number is darker. -/
  darker : ∀ s t, s < t → red (colour t) < red (colour s)

/-- A scale that meets R311: the four colours of the reference simulator (92_eei_decisions.md D37), with the low three
bytes read as channels. It shows only that the laws of `GreyScale` can be met: `Config.drawGreyScale` is no particular
scale. -/
def GreyScale.reference : GreyScale where
  colour s := [0xFFFFFFFF, 0xFFAAAAAA, 0xFF555555, 0xFF000000].getD s.toNat 0
  red c := ((c >>> 16).setWidth 8).toNat
  green c := ((c >>> 8).setWidth 8).toNat
  blue c := (c.setWidth 8).toNat
  grey := by decide
  darker := by decide

/-- A scale of four greys, any that R311 allows. Free value, log entry 9. That there is one at all is the argument. -/
opaque Config.drawGreyScale [Inhabited GreyScale] : GreyScale

/-- The grey scale of the machine, fixed and not known. -/
def Config.greyScale : GreyScale := @Config.drawGreyScale ⟨GreyScale.reference⟩

/-- `SHADE[0..3]` (00_scope.md R9, 60_exceptions.md R311, D22): the 32-bit colour of a shade. -/
def Config.shade (s : Shade) : Colour := Config.greyScale.colour s

end Sys2Proof
end

