-- ==== Sys2Proof/Syntax.lean ====
section
/-! DEFINITION. The instruction set: the operand fields (30_encoding.md R126 to R131) and `Instr`, one constructor per
row of spec/opcode_table.json, the rows with an operand first, then those without
(Lean's compiler numbers only the first 244 constructors that carry data), each in the table's order (base map R133,
then prefixed map R134). A constructor carries its immediate, as fetched: `d8`, `a8`, `e8` a raw byte, `d16`, `a16` a word (R132). In a constructor's name `Mem` stands for
the parentheses of a memory operand, so `ldMemBcA` is `LD (BC),A` and `ldBC` is `LD B,C`. -/

namespace Sys2Proof

/-- The register operands of the 3-bit field `r` other than `(HL)` (R126). -/
inductive Reg8 where
  | b | c | d | e | h | l | a
deriving DecidableEq, Repr

/-- The operands of the 2-bit pair field `rr` (R127). -/
inductive Pair where
  | bc | de | hl | sp
deriving DecidableEq, Repr

/-- The operands of the 2-bit pair field `qq` of PUSH and POP (R128). -/
inductive StackPair where
  | bc | de | hl | af
deriving DecidableEq, Repr

/-- The conditions of the 2-bit field `cc` (R129). -/
inductive Cond where
  | nz | z | nc | c
deriving DecidableEq, Repr

/-- The eight 8-bit ALU operations `ooo` (R133, block 0x80 to 0xBF). -/
inductive AluOp where
  | add | adc | sub | sbc | and | xor | or | cp
deriving DecidableEq, Repr

/-- The eight rotate and shift operations `y` of the prefixed table (R131). -/
inductive RotOp where
  | rlc | rrc | rl | rr | sla | sra | swap | srl
deriving DecidableEq, Repr

/-- The bit index `b` of BIT, RES and SET (R131). -/
inductive BitIndex where
  | b0 | b1 | b2 | b3 | b4 | b5 | b6 | b7
deriving DecidableEq, Repr

/-- The restart field `t` of RST, named by its vector `t * 8` (R130). -/
inductive Vec where
  | v00 | v08 | v10 | v18 | v20 | v28 | v30 | v38
deriving DecidableEq, Repr

/-- The 11 base opcode values with no table entry (R124). -/
inductive Unimpl where
  | d3 | db | dd | e3 | e4 | eb | ec | ed | f4 | fc | fd
deriving DecidableEq, Repr

/-- The instructions: one constructor per row of spec/opcode_table.json. -/
inductive Instr where
  /-- `LD BC,d16`, 0x01 (R159). -/
  | ldBcD16 (w : Word)
  /-- `LD B,d8`, 0x06 (R141). -/
  | ldBD8 (v : Byte)
  /-- `LD (a16),SP`, 0x08 (R160). -/
  | ldMemA16Sp (a : Word)
  /-- `LD C,d8`, 0x0E (R141). -/
  | ldCD8 (v : Byte)
  /-- `STOP`, 0x10 (R272), with its second byte, which is fetched and ignored. -/
  | stop (x : Byte)
  /-- `LD DE,d16`, 0x11 (R159). -/
  | ldDeD16 (w : Word)
  /-- `LD D,d8`, 0x16 (R141). -/
  | ldDD8 (v : Byte)
  /-- `JR e8`, 0x18 (R254). -/
  | jrE8 (e : Byte)
  /-- `LD E,d8`, 0x1E (R141). -/
  | ldED8 (v : Byte)
  /-- `JR NZ,e8`, 0x20 (R255). -/
  | jrNzE8 (e : Byte)
  /-- `LD HL,d16`, 0x21 (R159). -/
  | ldHlD16 (w : Word)
  /-- `LD H,d8`, 0x26 (R141). -/
  | ldHD8 (v : Byte)
  /-- `JR Z,e8`, 0x28 (R255). -/
  | jrZE8 (e : Byte)
  /-- `LD L,d8`, 0x2E (R141). -/
  | ldLD8 (v : Byte)
  /-- `JR NC,e8`, 0x30 (R255). -/
  | jrNcE8 (e : Byte)
  /-- `LD SP,d16`, 0x31 (R159). -/
  | ldSpD16 (w : Word)
  /-- `LD (HL),d8`, 0x36 (R144). -/
  | ldMemHlD8 (v : Byte)
  /-- `JR C,e8`, 0x38 (R255). -/
  | jrCE8 (e : Byte)
  /-- `LD A,d8`, 0x3E (R141). -/
  | ldAD8 (v : Byte)
  /-- `JP NZ,a16`, 0xC2 (R252). -/
  | jpNzA16 (a : Word)
  /-- `JP a16`, 0xC3 (R251). -/
  | jpA16 (a : Word)
  /-- `CALL NZ,a16`, 0xC4 (R257). -/
  | callNzA16 (a : Word)
  /-- `ADD A,d8`, 0xC6 (R173). -/
  | addAD8 (v : Byte)
  /-- `JP Z,a16`, 0xCA (R252). -/
  | jpZA16 (a : Word)
  /-- `PREFIX CB`, 0xCB (R125): the prefix byte and the byte after it, before the extended table is looked up. It is not an
  instruction of its own: the decoder gives the row of the extended table that `op2` selects (log entry 7). -/
  | prefixCb (op2 : Byte)
  /-- `CALL Z,a16`, 0xCC (R257). -/
  | callZA16 (a : Word)
  /-- `CALL a16`, 0xCD (R256). -/
  | callA16 (a : Word)
  /-- `ADC A,d8`, 0xCE (R176). -/
  | adcAD8 (v : Byte)
  /-- `JP NC,a16`, 0xD2 (R252). -/
  | jpNcA16 (a : Word)
  /-- `CALL NC,a16`, 0xD4 (R257). -/
  | callNcA16 (a : Word)
  /-- `SUB d8`, 0xD6 (R179). -/
  | subD8 (v : Byte)
  /-- `JP C,a16`, 0xDA (R252). -/
  | jpCA16 (a : Word)
  /-- `CALL C,a16`, 0xDC (R257). -/
  | callCA16 (a : Word)
  /-- `SBC A,d8`, 0xDE (R182). -/
  | sbcAD8 (v : Byte)
  /-- `LDH (a8),A`, 0xE0 (R152). -/
  | ldhMemA8A (n : Byte)
  /-- `AND d8`, 0xE6 (R185). -/
  | andD8 (v : Byte)
  /-- `ADD SP,e8`, 0xE8 (R213). -/
  | addSpE8 (e : Byte)
  /-- `LD (a16),A`, 0xEA (R150). -/
  | ldMemA16A (a : Word)
  /-- `XOR d8`, 0xEE (R188). -/
  | xorD8 (v : Byte)
  /-- `LDH A,(a8)`, 0xF0 (R151). -/
  | ldhAMemA8 (n : Byte)
  /-- `OR d8`, 0xF6 (R191). -/
  | orD8 (v : Byte)
  /-- `LD HL,SP+e8`, 0xF8 (R214). -/
  | ldHlSpE8 (e : Byte)
  /-- `LD A,(a16)`, 0xFA (R149). -/
  | ldAMemA16 (a : Word)
  /-- `CP d8`, 0xFE (R194). -/
  | cpD8 (v : Byte)
  /-- `NOP`, 0x00 (R270). -/
  | nop
  /-- `LD (BC),A`, 0x02 (R147). -/
  | ldMemBcA
  /-- `INC BC`, 0x03 (R211). -/
  | incBc
  /-- `INC B`, 0x04 (R195). -/
  | incB
  /-- `DEC B`, 0x05 (R197). -/
  | decB
  /-- `RLCA`, 0x07 (R220). -/
  | rlca
  /-- `ADD HL,BC`, 0x09 (R210). -/
  | addHlBc
  /-- `LD A,(BC)`, 0x0A (R145). -/
  | ldAMemBc
  /-- `DEC BC`, 0x0B (R212). -/
  | decBc
  /-- `INC C`, 0x0C (R195). -/
  | incC
  /-- `DEC C`, 0x0D (R197). -/
  | decC
  /-- `RRCA`, 0x0F (R221). -/
  | rrca
  /-- `LD (DE),A`, 0x12 (R148). -/
  | ldMemDeA
  /-- `INC DE`, 0x13 (R211). -/
  | incDe
  /-- `INC D`, 0x14 (R195). -/
  | incD
  /-- `DEC D`, 0x15 (R197). -/
  | decD
  /-- `RLA`, 0x17 (R222). -/
  | rla
  /-- `ADD HL,DE`, 0x19 (R210). -/
  | addHlDe
  /-- `LD A,(DE)`, 0x1A (R146). -/
  | ldAMemDe
  /-- `DEC DE`, 0x1B (R212). -/
  | decDe
  /-- `INC E`, 0x1C (R195). -/
  | incE
  /-- `DEC E`, 0x1D (R197). -/
  | decE
  /-- `RRA`, 0x1F (R223). -/
  | rra
  /-- `LD (HL+),A`, 0x22 (R155). -/
  | ldMemHlIncA
  /-- `INC HL`, 0x23 (R211). -/
  | incHl
  /-- `INC H`, 0x24 (R195). -/
  | incH
  /-- `DEC H`, 0x25 (R197). -/
  | decH
  /-- `DAA`, 0x27 (R199). -/
  | daa
  /-- `ADD HL,HL`, 0x29 (R210). -/
  | addHlHl
  /-- `LD A,(HL+)`, 0x2A (R157). -/
  | ldAMemHlInc
  /-- `DEC HL`, 0x2B (R212). -/
  | decHl
  /-- `INC L`, 0x2C (R195). -/
  | incL
  /-- `DEC L`, 0x2D (R197). -/
  | decL
  /-- `CPL`, 0x2F (R200). -/
  | cpl
  /-- `LD (HL-),A`, 0x32 (R156). -/
  | ldMemHlDecA
  /-- `INC SP`, 0x33 (R211). -/
  | incSp
  /-- `INC (HL)`, 0x34 (R196). -/
  | incMemHl
  /-- `DEC (HL)`, 0x35 (R198). -/
  | decMemHl
  /-- `SCF`, 0x37 (R201). -/
  | scf
  /-- `ADD HL,SP`, 0x39 (R210). -/
  | addHlSp
  /-- `LD A,(HL-)`, 0x3A (R158). -/
  | ldAMemHlDec
  /-- `DEC SP`, 0x3B (R212). -/
  | decSp
  /-- `INC A`, 0x3C (R195). -/
  | incA
  /-- `DEC A`, 0x3D (R197). -/
  | decA
  /-- `CCF`, 0x3F (R202). -/
  | ccf
  /-- `LD B,B`, 0x40 (R140). -/
  | ldBB
  /-- `LD B,C`, 0x41 (R140). -/
  | ldBC
  /-- `LD B,D`, 0x42 (R140). -/
  | ldBD
  /-- `LD B,E`, 0x43 (R140). -/
  | ldBE
  /-- `LD B,H`, 0x44 (R140). -/
  | ldBH
  /-- `LD B,L`, 0x45 (R140). -/
  | ldBL
  /-- `LD B,(HL)`, 0x46 (R142). -/
  | ldBMemHl
  /-- `LD B,A`, 0x47 (R140). -/
  | ldBA
  /-- `LD C,B`, 0x48 (R140). -/
  | ldCB
  /-- `LD C,C`, 0x49 (R140). -/
  | ldCC
  /-- `LD C,D`, 0x4A (R140). -/
  | ldCD
  /-- `LD C,E`, 0x4B (R140). -/
  | ldCE
  /-- `LD C,H`, 0x4C (R140). -/
  | ldCH
  /-- `LD C,L`, 0x4D (R140). -/
  | ldCL
  /-- `LD C,(HL)`, 0x4E (R142). -/
  | ldCMemHl
  /-- `LD C,A`, 0x4F (R140). -/
  | ldCA
  /-- `LD D,B`, 0x50 (R140). -/
  | ldDB
  /-- `LD D,C`, 0x51 (R140). -/
  | ldDC
  /-- `LD D,D`, 0x52 (R140). -/
  | ldDD
  /-- `LD D,E`, 0x53 (R140). -/
  | ldDE
  /-- `LD D,H`, 0x54 (R140). -/
  | ldDH
  /-- `LD D,L`, 0x55 (R140). -/
  | ldDL
  /-- `LD D,(HL)`, 0x56 (R142). -/
  | ldDMemHl
  /-- `LD D,A`, 0x57 (R140). -/
  | ldDA
  /-- `LD E,B`, 0x58 (R140). -/
  | ldEB
  /-- `LD E,C`, 0x59 (R140). -/
  | ldEC
  /-- `LD E,D`, 0x5A (R140). -/
  | ldED
  /-- `LD E,E`, 0x5B (R140). -/
  | ldEE
  /-- `LD E,H`, 0x5C (R140). -/
  | ldEH
  /-- `LD E,L`, 0x5D (R140). -/
  | ldEL
  /-- `LD E,(HL)`, 0x5E (R142). -/
  | ldEMemHl
  /-- `LD E,A`, 0x5F (R140). -/
  | ldEA
  /-- `LD H,B`, 0x60 (R140). -/
  | ldHB
  /-- `LD H,C`, 0x61 (R140). -/
  | ldHC
  /-- `LD H,D`, 0x62 (R140). -/
  | ldHD
  /-- `LD H,E`, 0x63 (R140). -/
  | ldHE
  /-- `LD H,H`, 0x64 (R140). -/
  | ldHH
  /-- `LD H,L`, 0x65 (R140). -/
  | ldHL
  /-- `LD H,(HL)`, 0x66 (R142). -/
  | ldHMemHl
  /-- `LD H,A`, 0x67 (R140). -/
  | ldHA
  /-- `LD L,B`, 0x68 (R140). -/
  | ldLB
  /-- `LD L,C`, 0x69 (R140). -/
  | ldLC
  /-- `LD L,D`, 0x6A (R140). -/
  | ldLD
  /-- `LD L,E`, 0x6B (R140). -/
  | ldLE
  /-- `LD L,H`, 0x6C (R140). -/
  | ldLH
  /-- `LD L,L`, 0x6D (R140). -/
  | ldLL
  /-- `LD L,(HL)`, 0x6E (R142). -/
  | ldLMemHl
  /-- `LD L,A`, 0x6F (R140). -/
  | ldLA
  /-- `LD (HL),B`, 0x70 (R143). -/
  | ldMemHlB
  /-- `LD (HL),C`, 0x71 (R143). -/
  | ldMemHlC
  /-- `LD (HL),D`, 0x72 (R143). -/
  | ldMemHlD
  /-- `LD (HL),E`, 0x73 (R143). -/
  | ldMemHlE
  /-- `LD (HL),H`, 0x74 (R143). -/
  | ldMemHlH
  /-- `LD (HL),L`, 0x75 (R143). -/
  | ldMemHlL
  /-- `HALT`, 0x76 (R271). -/
  | halt
  /-- `LD (HL),A`, 0x77 (R143). -/
  | ldMemHlA
  /-- `LD A,B`, 0x78 (R140). -/
  | ldAB
  /-- `LD A,C`, 0x79 (R140). -/
  | ldAC
  /-- `LD A,D`, 0x7A (R140). -/
  | ldAD
  /-- `LD A,E`, 0x7B (R140). -/
  | ldAE
  /-- `LD A,H`, 0x7C (R140). -/
  | ldAH
  /-- `LD A,L`, 0x7D (R140). -/
  | ldAL
  /-- `LD A,(HL)`, 0x7E (R142). -/
  | ldAMemHl
  /-- `LD A,A`, 0x7F (R140). -/
  | ldAA
  /-- `ADD A,B`, 0x80 (R171). -/
  | addAB
  /-- `ADD A,C`, 0x81 (R171). -/
  | addAC
  /-- `ADD A,D`, 0x82 (R171). -/
  | addAD
  /-- `ADD A,E`, 0x83 (R171). -/
  | addAE
  /-- `ADD A,H`, 0x84 (R171). -/
  | addAH
  /-- `ADD A,L`, 0x85 (R171). -/
  | addAL
  /-- `ADD A,(HL)`, 0x86 (R172). -/
  | addAMemHl
  /-- `ADD A,A`, 0x87 (R171). -/
  | addAA
  /-- `ADC A,B`, 0x88 (R174). -/
  | adcAB
  /-- `ADC A,C`, 0x89 (R174). -/
  | adcAC
  /-- `ADC A,D`, 0x8A (R174). -/
  | adcAD
  /-- `ADC A,E`, 0x8B (R174). -/
  | adcAE
  /-- `ADC A,H`, 0x8C (R174). -/
  | adcAH
  /-- `ADC A,L`, 0x8D (R174). -/
  | adcAL
  /-- `ADC A,(HL)`, 0x8E (R175). -/
  | adcAMemHl
  /-- `ADC A,A`, 0x8F (R174). -/
  | adcAA
  /-- `SUB B`, 0x90 (R177). -/
  | subB
  /-- `SUB C`, 0x91 (R177). -/
  | subC
  /-- `SUB D`, 0x92 (R177). -/
  | subD
  /-- `SUB E`, 0x93 (R177). -/
  | subE
  /-- `SUB H`, 0x94 (R177). -/
  | subH
  /-- `SUB L`, 0x95 (R177). -/
  | subL
  /-- `SUB (HL)`, 0x96 (R178). -/
  | subMemHl
  /-- `SUB A`, 0x97 (R177). -/
  | subA
  /-- `SBC A,B`, 0x98 (R180). -/
  | sbcAB
  /-- `SBC A,C`, 0x99 (R180). -/
  | sbcAC
  /-- `SBC A,D`, 0x9A (R180). -/
  | sbcAD
  /-- `SBC A,E`, 0x9B (R180). -/
  | sbcAE
  /-- `SBC A,H`, 0x9C (R180). -/
  | sbcAH
  /-- `SBC A,L`, 0x9D (R180). -/
  | sbcAL
  /-- `SBC A,(HL)`, 0x9E (R181). -/
  | sbcAMemHl
  /-- `SBC A,A`, 0x9F (R180). -/
  | sbcAA
  /-- `AND B`, 0xA0 (R183). -/
  | andB
  /-- `AND C`, 0xA1 (R183). -/
  | andC
  /-- `AND D`, 0xA2 (R183). -/
  | andD
  /-- `AND E`, 0xA3 (R183). -/
  | andE
  /-- `AND H`, 0xA4 (R183). -/
  | andH
  /-- `AND L`, 0xA5 (R183). -/
  | andL
  /-- `AND (HL)`, 0xA6 (R184). -/
  | andMemHl
  /-- `AND A`, 0xA7 (R183). -/
  | andA
  /-- `XOR B`, 0xA8 (R186). -/
  | xorB
  /-- `XOR C`, 0xA9 (R186). -/
  | xorC
  /-- `XOR D`, 0xAA (R186). -/
  | xorD
  /-- `XOR E`, 0xAB (R186). -/
  | xorE
  /-- `XOR H`, 0xAC (R186). -/
  | xorH
  /-- `XOR L`, 0xAD (R186). -/
  | xorL
  /-- `XOR (HL)`, 0xAE (R187). -/
  | xorMemHl
  /-- `XOR A`, 0xAF (R186). -/
  | xorA
  /-- `OR B`, 0xB0 (R189). -/
  | orB
  /-- `OR C`, 0xB1 (R189). -/
  | orC
  /-- `OR D`, 0xB2 (R189). -/
  | orD
  /-- `OR E`, 0xB3 (R189). -/
  | orE
  /-- `OR H`, 0xB4 (R189). -/
  | orH
  /-- `OR L`, 0xB5 (R189). -/
  | orL
  /-- `OR (HL)`, 0xB6 (R190). -/
  | orMemHl
  /-- `OR A`, 0xB7 (R189). -/
  | orA
  /-- `CP B`, 0xB8 (R192). -/
  | cpB
  /-- `CP C`, 0xB9 (R192). -/
  | cpC
  /-- `CP D`, 0xBA (R192). -/
  | cpD
  /-- `CP E`, 0xBB (R192). -/
  | cpE
  /-- `CP H`, 0xBC (R192). -/
  | cpH
  /-- `CP L`, 0xBD (R192). -/
  | cpL
  /-- `CP (HL)`, 0xBE (R193). -/
  | cpMemHl
  /-- `CP A`, 0xBF (R192). -/
  | cpA
  /-- `RET NZ`, 0xC0 (R259). -/
  | retNz
  /-- `POP BC`, 0xC1 (R163). -/
  | popBc
  /-- `PUSH BC`, 0xC5 (R162). -/
  | pushBc
  /-- `RST 0x00`, 0xC7 (R261). -/
  | rst00
  /-- `RET Z`, 0xC8 (R259). -/
  | retZ
  /-- `RET`, 0xC9 (R258). -/
  | ret
  /-- `RST 0x08`, 0xCF (R261). -/
  | rst08
  /-- `RET NC`, 0xD0 (R259). -/
  | retNc
  /-- `POP DE`, 0xD1 (R163). -/
  | popDe
  /-- `(unimplemented 0xD3)`, 0xD3 (R124). -/
  | unimplementedD3
  /-- `PUSH DE`, 0xD5 (R162). -/
  | pushDe
  /-- `RST 0x10`, 0xD7 (R261). -/
  | rst10
  /-- `RET C`, 0xD8 (R259). -/
  | retC
  /-- `RETI`, 0xD9 (R260). -/
  | reti
  /-- `(unimplemented 0xDB)`, 0xDB (R124). -/
  | unimplementedDB
  /-- `(unimplemented 0xDD)`, 0xDD (R124). -/
  | unimplementedDD
  /-- `RST 0x18`, 0xDF (R261). -/
  | rst18
  /-- `POP HL`, 0xE1 (R163). -/
  | popHl
  /-- `LD (C),A`, 0xE2 (R154). -/
  | ldMemCA
  /-- `(unimplemented 0xE3)`, 0xE3 (R124). -/
  | unimplementedE3
  /-- `(unimplemented 0xE4)`, 0xE4 (R124). -/
  | unimplementedE4
  /-- `PUSH HL`, 0xE5 (R162). -/
  | pushHl
  /-- `RST 0x20`, 0xE7 (R261). -/
  | rst20
  /-- `JP HL`, 0xE9 (R253). -/
  | jpHl
  /-- `(unimplemented 0xEB)`, 0xEB (R124). -/
  | unimplementedEB
  /-- `(unimplemented 0xEC)`, 0xEC (R124). -/
  | unimplementedEC
  /-- `(unimplemented 0xED)`, 0xED (R124). -/
  | unimplementedED
  /-- `RST 0x28`, 0xEF (R261). -/
  | rst28
  /-- `POP AF`, 0xF1 (R164). -/
  | popAf
  /-- `LD A,(C)`, 0xF2 (R153). -/
  | ldAMemC
  /-- `DI`, 0xF3 (R273). -/
  | di
  /-- `(unimplemented 0xF4)`, 0xF4 (R124). -/
  | unimplementedF4
  /-- `PUSH AF`, 0xF5 (R162). -/
  | pushAf
  /-- `RST 0x30`, 0xF7 (R261). -/
  | rst30
  /-- `LD SP,HL`, 0xF9 (R161). -/
  | ldSpHl
  /-- `EI`, 0xFB (R274). -/
  | ei
  /-- `(unimplemented 0xFC)`, 0xFC (R124). -/
  | unimplementedFC
  /-- `(unimplemented 0xFD)`, 0xFD (R124). -/
  | unimplementedFD
  /-- `RST 0x38`, 0xFF (R261). -/
  | rst38
  /-- `RLC B`, 0xCB00 (R224). -/
  | rlcB
  /-- `RLC C`, 0xCB01 (R224). -/
  | rlcC
  /-- `RLC D`, 0xCB02 (R224). -/
  | rlcD
  /-- `RLC E`, 0xCB03 (R224). -/
  | rlcE
  /-- `RLC H`, 0xCB04 (R224). -/
  | rlcH
  /-- `RLC L`, 0xCB05 (R224). -/
  | rlcL
  /-- `RLC (HL)`, 0xCB06 (R225). -/
  | rlcMemHl
  /-- `RLC A`, 0xCB07 (R224). -/
  | rlcA
  /-- `RRC B`, 0xCB08 (R226). -/
  | rrcB
  /-- `RRC C`, 0xCB09 (R226). -/
  | rrcC
  /-- `RRC D`, 0xCB0A (R226). -/
  | rrcD
  /-- `RRC E`, 0xCB0B (R226). -/
  | rrcE
  /-- `RRC H`, 0xCB0C (R226). -/
  | rrcH
  /-- `RRC L`, 0xCB0D (R226). -/
  | rrcL
  /-- `RRC (HL)`, 0xCB0E (R227). -/
  | rrcMemHl
  /-- `RRC A`, 0xCB0F (R226). -/
  | rrcA
  /-- `RL B`, 0xCB10 (R228). -/
  | rlB
  /-- `RL C`, 0xCB11 (R228). -/
  | rlC
  /-- `RL D`, 0xCB12 (R228). -/
  | rlD
  /-- `RL E`, 0xCB13 (R228). -/
  | rlE
  /-- `RL H`, 0xCB14 (R228). -/
  | rlH
  /-- `RL L`, 0xCB15 (R228). -/
  | rlL
  /-- `RL (HL)`, 0xCB16 (R229). -/
  | rlMemHl
  /-- `RL A`, 0xCB17 (R228). -/
  | rlA
  /-- `RR B`, 0xCB18 (R230). -/
  | rrB
  /-- `RR C`, 0xCB19 (R230). -/
  | rrC
  /-- `RR D`, 0xCB1A (R230). -/
  | rrD
  /-- `RR E`, 0xCB1B (R230). -/
  | rrE
  /-- `RR H`, 0xCB1C (R230). -/
  | rrH
  /-- `RR L`, 0xCB1D (R230). -/
  | rrL
  /-- `RR (HL)`, 0xCB1E (R231). -/
  | rrMemHl
  /-- `RR A`, 0xCB1F (R230). -/
  | rrA
  /-- `SLA B`, 0xCB20 (R232). -/
  | slaB
  /-- `SLA C`, 0xCB21 (R232). -/
  | slaC
  /-- `SLA D`, 0xCB22 (R232). -/
  | slaD
  /-- `SLA E`, 0xCB23 (R232). -/
  | slaE
  /-- `SLA H`, 0xCB24 (R232). -/
  | slaH
  /-- `SLA L`, 0xCB25 (R232). -/
  | slaL
  /-- `SLA (HL)`, 0xCB26 (R233). -/
  | slaMemHl
  /-- `SLA A`, 0xCB27 (R232). -/
  | slaA
  /-- `SRA B`, 0xCB28 (R234). -/
  | sraB
  /-- `SRA C`, 0xCB29 (R234). -/
  | sraC
  /-- `SRA D`, 0xCB2A (R234). -/
  | sraD
  /-- `SRA E`, 0xCB2B (R234). -/
  | sraE
  /-- `SRA H`, 0xCB2C (R234). -/
  | sraH
  /-- `SRA L`, 0xCB2D (R234). -/
  | sraL
  /-- `SRA (HL)`, 0xCB2E (R235). -/
  | sraMemHl
  /-- `SRA A`, 0xCB2F (R234). -/
  | sraA
  /-- `SWAP B`, 0xCB30 (R236). -/
  | swapB
  /-- `SWAP C`, 0xCB31 (R236). -/
  | swapC
  /-- `SWAP D`, 0xCB32 (R236). -/
  | swapD
  /-- `SWAP E`, 0xCB33 (R236). -/
  | swapE
  /-- `SWAP H`, 0xCB34 (R236). -/
  | swapH
  /-- `SWAP L`, 0xCB35 (R236). -/
  | swapL
  /-- `SWAP (HL)`, 0xCB36 (R237). -/
  | swapMemHl
  /-- `SWAP A`, 0xCB37 (R236). -/
  | swapA
  /-- `SRL B`, 0xCB38 (R238). -/
  | srlB
  /-- `SRL C`, 0xCB39 (R238). -/
  | srlC
  /-- `SRL D`, 0xCB3A (R238). -/
  | srlD
  /-- `SRL E`, 0xCB3B (R238). -/
  | srlE
  /-- `SRL H`, 0xCB3C (R238). -/
  | srlH
  /-- `SRL L`, 0xCB3D (R238). -/
  | srlL
  /-- `SRL (HL)`, 0xCB3E (R239). -/
  | srlMemHl
  /-- `SRL A`, 0xCB3F (R238). -/
  | srlA
  /-- `BIT 0,B`, 0xCB40 (R240). -/
  | bit0B
  /-- `BIT 0,C`, 0xCB41 (R240). -/
  | bit0C
  /-- `BIT 0,D`, 0xCB42 (R240). -/
  | bit0D
  /-- `BIT 0,E`, 0xCB43 (R240). -/
  | bit0E
  /-- `BIT 0,H`, 0xCB44 (R240). -/
  | bit0H
  /-- `BIT 0,L`, 0xCB45 (R240). -/
  | bit0L
  /-- `BIT 0,(HL)`, 0xCB46 (R241). -/
  | bit0MemHl
  /-- `BIT 0,A`, 0xCB47 (R240). -/
  | bit0A
  /-- `BIT 1,B`, 0xCB48 (R240). -/
  | bit1B
  /-- `BIT 1,C`, 0xCB49 (R240). -/
  | bit1C
  /-- `BIT 1,D`, 0xCB4A (R240). -/
  | bit1D
  /-- `BIT 1,E`, 0xCB4B (R240). -/
  | bit1E
  /-- `BIT 1,H`, 0xCB4C (R240). -/
  | bit1H
  /-- `BIT 1,L`, 0xCB4D (R240). -/
  | bit1L
  /-- `BIT 1,(HL)`, 0xCB4E (R241). -/
  | bit1MemHl
  /-- `BIT 1,A`, 0xCB4F (R240). -/
  | bit1A
  /-- `BIT 2,B`, 0xCB50 (R240). -/
  | bit2B
  /-- `BIT 2,C`, 0xCB51 (R240). -/
  | bit2C
  /-- `BIT 2,D`, 0xCB52 (R240). -/
  | bit2D
  /-- `BIT 2,E`, 0xCB53 (R240). -/
  | bit2E
  /-- `BIT 2,H`, 0xCB54 (R240). -/
  | bit2H
  /-- `BIT 2,L`, 0xCB55 (R240). -/
  | bit2L
  /-- `BIT 2,(HL)`, 0xCB56 (R241). -/
  | bit2MemHl
  /-- `BIT 2,A`, 0xCB57 (R240). -/
  | bit2A
  /-- `BIT 3,B`, 0xCB58 (R240). -/
  | bit3B
  /-- `BIT 3,C`, 0xCB59 (R240). -/
  | bit3C
  /-- `BIT 3,D`, 0xCB5A (R240). -/
  | bit3D
  /-- `BIT 3,E`, 0xCB5B (R240). -/
  | bit3E
  /-- `BIT 3,H`, 0xCB5C (R240). -/
  | bit3H
  /-- `BIT 3,L`, 0xCB5D (R240). -/
  | bit3L
  /-- `BIT 3,(HL)`, 0xCB5E (R241). -/
  | bit3MemHl
  /-- `BIT 3,A`, 0xCB5F (R240). -/
  | bit3A
  /-- `BIT 4,B`, 0xCB60 (R240). -/
  | bit4B
  /-- `BIT 4,C`, 0xCB61 (R240). -/
  | bit4C
  /-- `BIT 4,D`, 0xCB62 (R240). -/
  | bit4D
  /-- `BIT 4,E`, 0xCB63 (R240). -/
  | bit4E
  /-- `BIT 4,H`, 0xCB64 (R240). -/
  | bit4H
  /-- `BIT 4,L`, 0xCB65 (R240). -/
  | bit4L
  /-- `BIT 4,(HL)`, 0xCB66 (R241). -/
  | bit4MemHl
  /-- `BIT 4,A`, 0xCB67 (R240). -/
  | bit4A
  /-- `BIT 5,B`, 0xCB68 (R240). -/
  | bit5B
  /-- `BIT 5,C`, 0xCB69 (R240). -/
  | bit5C
  /-- `BIT 5,D`, 0xCB6A (R240). -/
  | bit5D
  /-- `BIT 5,E`, 0xCB6B (R240). -/
  | bit5E
  /-- `BIT 5,H`, 0xCB6C (R240). -/
  | bit5H
  /-- `BIT 5,L`, 0xCB6D (R240). -/
  | bit5L
  /-- `BIT 5,(HL)`, 0xCB6E (R241). -/
  | bit5MemHl
  /-- `BIT 5,A`, 0xCB6F (R240). -/
  | bit5A
  /-- `BIT 6,B`, 0xCB70 (R240). -/
  | bit6B
  /-- `BIT 6,C`, 0xCB71 (R240). -/
  | bit6C
  /-- `BIT 6,D`, 0xCB72 (R240). -/
  | bit6D
  /-- `BIT 6,E`, 0xCB73 (R240). -/
  | bit6E
  /-- `BIT 6,H`, 0xCB74 (R240). -/
  | bit6H
  /-- `BIT 6,L`, 0xCB75 (R240). -/
  | bit6L
  /-- `BIT 6,(HL)`, 0xCB76 (R241). -/
  | bit6MemHl
  /-- `BIT 6,A`, 0xCB77 (R240). -/
  | bit6A
  /-- `BIT 7,B`, 0xCB78 (R240). -/
  | bit7B
  /-- `BIT 7,C`, 0xCB79 (R240). -/
  | bit7C
  /-- `BIT 7,D`, 0xCB7A (R240). -/
  | bit7D
  /-- `BIT 7,E`, 0xCB7B (R240). -/
  | bit7E
  /-- `BIT 7,H`, 0xCB7C (R240). -/
  | bit7H
  /-- `BIT 7,L`, 0xCB7D (R240). -/
  | bit7L
  /-- `BIT 7,(HL)`, 0xCB7E (R241). -/
  | bit7MemHl
  /-- `BIT 7,A`, 0xCB7F (R240). -/
  | bit7A
  /-- `RES 0,B`, 0xCB80 (R242). -/
  | res0B
  /-- `RES 0,C`, 0xCB81 (R242). -/
  | res0C
  /-- `RES 0,D`, 0xCB82 (R242). -/
  | res0D
  /-- `RES 0,E`, 0xCB83 (R242). -/
  | res0E
  /-- `RES 0,H`, 0xCB84 (R242). -/
  | res0H
  /-- `RES 0,L`, 0xCB85 (R242). -/
  | res0L
  /-- `RES 0,(HL)`, 0xCB86 (R243). -/
  | res0MemHl
  /-- `RES 0,A`, 0xCB87 (R242). -/
  | res0A
  /-- `RES 1,B`, 0xCB88 (R242). -/
  | res1B
  /-- `RES 1,C`, 0xCB89 (R242). -/
  | res1C
  /-- `RES 1,D`, 0xCB8A (R242). -/
  | res1D
  /-- `RES 1,E`, 0xCB8B (R242). -/
  | res1E
  /-- `RES 1,H`, 0xCB8C (R242). -/
  | res1H
  /-- `RES 1,L`, 0xCB8D (R242). -/
  | res1L
  /-- `RES 1,(HL)`, 0xCB8E (R243). -/
  | res1MemHl
  /-- `RES 1,A`, 0xCB8F (R242). -/
  | res1A
  /-- `RES 2,B`, 0xCB90 (R242). -/
  | res2B
  /-- `RES 2,C`, 0xCB91 (R242). -/
  | res2C
  /-- `RES 2,D`, 0xCB92 (R242). -/
  | res2D
  /-- `RES 2,E`, 0xCB93 (R242). -/
  | res2E
  /-- `RES 2,H`, 0xCB94 (R242). -/
  | res2H
  /-- `RES 2,L`, 0xCB95 (R242). -/
  | res2L
  /-- `RES 2,(HL)`, 0xCB96 (R243). -/
  | res2MemHl
  /-- `RES 2,A`, 0xCB97 (R242). -/
  | res2A
  /-- `RES 3,B`, 0xCB98 (R242). -/
  | res3B
  /-- `RES 3,C`, 0xCB99 (R242). -/
  | res3C
  /-- `RES 3,D`, 0xCB9A (R242). -/
  | res3D
  /-- `RES 3,E`, 0xCB9B (R242). -/
  | res3E
  /-- `RES 3,H`, 0xCB9C (R242). -/
  | res3H
  /-- `RES 3,L`, 0xCB9D (R242). -/
  | res3L
  /-- `RES 3,(HL)`, 0xCB9E (R243). -/
  | res3MemHl
  /-- `RES 3,A`, 0xCB9F (R242). -/
  | res3A
  /-- `RES 4,B`, 0xCBA0 (R242). -/
  | res4B
  /-- `RES 4,C`, 0xCBA1 (R242). -/
  | res4C
  /-- `RES 4,D`, 0xCBA2 (R242). -/
  | res4D
  /-- `RES 4,E`, 0xCBA3 (R242). -/
  | res4E
  /-- `RES 4,H`, 0xCBA4 (R242). -/
  | res4H
  /-- `RES 4,L`, 0xCBA5 (R242). -/
  | res4L
  /-- `RES 4,(HL)`, 0xCBA6 (R243). -/
  | res4MemHl
  /-- `RES 4,A`, 0xCBA7 (R242). -/
  | res4A
  /-- `RES 5,B`, 0xCBA8 (R242). -/
  | res5B
  /-- `RES 5,C`, 0xCBA9 (R242). -/
  | res5C
  /-- `RES 5,D`, 0xCBAA (R242). -/
  | res5D
  /-- `RES 5,E`, 0xCBAB (R242). -/
  | res5E
  /-- `RES 5,H`, 0xCBAC (R242). -/
  | res5H
  /-- `RES 5,L`, 0xCBAD (R242). -/
  | res5L
  /-- `RES 5,(HL)`, 0xCBAE (R243). -/
  | res5MemHl
  /-- `RES 5,A`, 0xCBAF (R242). -/
  | res5A
  /-- `RES 6,B`, 0xCBB0 (R242). -/
  | res6B
  /-- `RES 6,C`, 0xCBB1 (R242). -/
  | res6C
  /-- `RES 6,D`, 0xCBB2 (R242). -/
  | res6D
  /-- `RES 6,E`, 0xCBB3 (R242). -/
  | res6E
  /-- `RES 6,H`, 0xCBB4 (R242). -/
  | res6H
  /-- `RES 6,L`, 0xCBB5 (R242). -/
  | res6L
  /-- `RES 6,(HL)`, 0xCBB6 (R243). -/
  | res6MemHl
  /-- `RES 6,A`, 0xCBB7 (R242). -/
  | res6A
  /-- `RES 7,B`, 0xCBB8 (R242). -/
  | res7B
  /-- `RES 7,C`, 0xCBB9 (R242). -/
  | res7C
  /-- `RES 7,D`, 0xCBBA (R242). -/
  | res7D
  /-- `RES 7,E`, 0xCBBB (R242). -/
  | res7E
  /-- `RES 7,H`, 0xCBBC (R242). -/
  | res7H
  /-- `RES 7,L`, 0xCBBD (R242). -/
  | res7L
  /-- `RES 7,(HL)`, 0xCBBE (R243). -/
  | res7MemHl
  /-- `RES 7,A`, 0xCBBF (R242). -/
  | res7A
  /-- `SET 0,B`, 0xCBC0 (R244). -/
  | set0B
  /-- `SET 0,C`, 0xCBC1 (R244). -/
  | set0C
  /-- `SET 0,D`, 0xCBC2 (R244). -/
  | set0D
  /-- `SET 0,E`, 0xCBC3 (R244). -/
  | set0E
  /-- `SET 0,H`, 0xCBC4 (R244). -/
  | set0H
  /-- `SET 0,L`, 0xCBC5 (R244). -/
  | set0L
  /-- `SET 0,(HL)`, 0xCBC6 (R245). -/
  | set0MemHl
  /-- `SET 0,A`, 0xCBC7 (R244). -/
  | set0A
  /-- `SET 1,B`, 0xCBC8 (R244). -/
  | set1B
  /-- `SET 1,C`, 0xCBC9 (R244). -/
  | set1C
  /-- `SET 1,D`, 0xCBCA (R244). -/
  | set1D
  /-- `SET 1,E`, 0xCBCB (R244). -/
  | set1E
  /-- `SET 1,H`, 0xCBCC (R244). -/
  | set1H
  /-- `SET 1,L`, 0xCBCD (R244). -/
  | set1L
  /-- `SET 1,(HL)`, 0xCBCE (R245). -/
  | set1MemHl
  /-- `SET 1,A`, 0xCBCF (R244). -/
  | set1A
  /-- `SET 2,B`, 0xCBD0 (R244). -/
  | set2B
  /-- `SET 2,C`, 0xCBD1 (R244). -/
  | set2C
  /-- `SET 2,D`, 0xCBD2 (R244). -/
  | set2D
  /-- `SET 2,E`, 0xCBD3 (R244). -/
  | set2E
  /-- `SET 2,H`, 0xCBD4 (R244). -/
  | set2H
  /-- `SET 2,L`, 0xCBD5 (R244). -/
  | set2L
  /-- `SET 2,(HL)`, 0xCBD6 (R245). -/
  | set2MemHl
  /-- `SET 2,A`, 0xCBD7 (R244). -/
  | set2A
  /-- `SET 3,B`, 0xCBD8 (R244). -/
  | set3B
  /-- `SET 3,C`, 0xCBD9 (R244). -/
  | set3C
  /-- `SET 3,D`, 0xCBDA (R244). -/
  | set3D
  /-- `SET 3,E`, 0xCBDB (R244). -/
  | set3E
  /-- `SET 3,H`, 0xCBDC (R244). -/
  | set3H
  /-- `SET 3,L`, 0xCBDD (R244). -/
  | set3L
  /-- `SET 3,(HL)`, 0xCBDE (R245). -/
  | set3MemHl
  /-- `SET 3,A`, 0xCBDF (R244). -/
  | set3A
  /-- `SET 4,B`, 0xCBE0 (R244). -/
  | set4B
  /-- `SET 4,C`, 0xCBE1 (R244). -/
  | set4C
  /-- `SET 4,D`, 0xCBE2 (R244). -/
  | set4D
  /-- `SET 4,E`, 0xCBE3 (R244). -/
  | set4E
  /-- `SET 4,H`, 0xCBE4 (R244). -/
  | set4H
  /-- `SET 4,L`, 0xCBE5 (R244). -/
  | set4L
  /-- `SET 4,(HL)`, 0xCBE6 (R245). -/
  | set4MemHl
  /-- `SET 4,A`, 0xCBE7 (R244). -/
  | set4A
  /-- `SET 5,B`, 0xCBE8 (R244). -/
  | set5B
  /-- `SET 5,C`, 0xCBE9 (R244). -/
  | set5C
  /-- `SET 5,D`, 0xCBEA (R244). -/
  | set5D
  /-- `SET 5,E`, 0xCBEB (R244). -/
  | set5E
  /-- `SET 5,H`, 0xCBEC (R244). -/
  | set5H
  /-- `SET 5,L`, 0xCBED (R244). -/
  | set5L
  /-- `SET 5,(HL)`, 0xCBEE (R245). -/
  | set5MemHl
  /-- `SET 5,A`, 0xCBEF (R244). -/
  | set5A
  /-- `SET 6,B`, 0xCBF0 (R244). -/
  | set6B
  /-- `SET 6,C`, 0xCBF1 (R244). -/
  | set6C
  /-- `SET 6,D`, 0xCBF2 (R244). -/
  | set6D
  /-- `SET 6,E`, 0xCBF3 (R244). -/
  | set6E
  /-- `SET 6,H`, 0xCBF4 (R244). -/
  | set6H
  /-- `SET 6,L`, 0xCBF5 (R244). -/
  | set6L
  /-- `SET 6,(HL)`, 0xCBF6 (R245). -/
  | set6MemHl
  /-- `SET 6,A`, 0xCBF7 (R244). -/
  | set6A
  /-- `SET 7,B`, 0xCBF8 (R244). -/
  | set7B
  /-- `SET 7,C`, 0xCBF9 (R244). -/
  | set7C
  /-- `SET 7,D`, 0xCBFA (R244). -/
  | set7D
  /-- `SET 7,E`, 0xCBFB (R244). -/
  | set7E
  /-- `SET 7,H`, 0xCBFC (R244). -/
  | set7H
  /-- `SET 7,L`, 0xCBFD (R244). -/
  | set7L
  /-- `SET 7,(HL)`, 0xCBFE (R245). -/
  | set7MemHl
  /-- `SET 7,A`, 0xCBFF (R244). -/
  | set7A
deriving DecidableEq, Repr

end Sys2Proof
end

