-- ==== Sys2Proof/WellFormed.lean ====
section
/-! DEFINITION. The well-formed instructions. -/

namespace Sys2Proof

/-- Every instruction is well formed but the bare prefix: 0xCB is not an instruction of its own (30_encoding.md R125),
and the decoder names the row of the extended table that its second byte selects. Every operand field is a type that
holds exactly the values its encoding admits, so no other check is needed. -/
def Instr.WellFormed (i : Instr) : Bool :=
  match i with
  | .prefixCb _ => false
  | _ => true

end Sys2Proof
end

