-- ==== Sys2Proof/Machine/State.lean ====
section
/-! DEFINITION. The machine's state as plain data (10_state.md), the reasons a step may stop, and the state after
construction (10_state.md R50). -/

namespace Sys2Proof.Machine

/-- A sparse store of `w`-bit cells: (key, value) pairs. Its canonical form is `Memory.wf` (Machine/Memory.lean): keys
strictly rising and no zero value, an unlisted key reading as zero. Zero is only how a store is written down: every
content has one such list, and the contents at launch are `MEM_INIT`, an argument of `construct` (log entry 4). -/
abbrev Cells (w : Nat) := List (Nat × BitVec w)

/-- A storage region of bytes, keyed by offset into the region. -/
abbrev Memory := List Host.Cell

/-- The four display modes (10_state.md R48). -/
inductive Mode where
  | oamScan
  | pixelTransfer
  | hblank
  | vblank
deriving DecidableEq, Repr

/-- What one engine step returns (00_scope.md R16, 60_exceptions.md R280). -/
inductive StepOutcome where
  /-- `Cycles(n)`: the instruction completed and cost `n` cycle units. -/
  | cycles (n : Nat)
  /-- `Halted`: HALT or STOP ran, or the engine was halted already. -/
  | halted
  /-- `UnimplementedOpcode`: the fetched base opcode has no table entry. -/
  | unimplementedOpcode
deriving DecidableEq, Repr

/-- The engine register file (10_state.md R20 to R29). The pairs AF, BC, DE, HL are views (R21), not storage. -/
structure Regs where
  /-- The accumulator A. -/
  a : Byte
  /-- The flag register F: Z, N, H, C in bits 7 to 4, bits 3 to 0 always 0 (R23, R25). -/
  f : Byte
  /-- Register B. -/
  b : Byte
  /-- Register C. -/
  c : Byte
  /-- Register D. -/
  d : Byte
  /-- Register E. -/
  e : Byte
  /-- Register H. -/
  h : Byte
  /-- Register L. -/
  l : Byte
  /-- The stack pointer (R26). -/
  sp : Word
  /-- The program counter (R27). -/
  pc : Word
  /-- The interrupt master enable, written by DI, EI, RETI and read by nothing (R28). -/
  ime : Bool
  /-- The halt latch (R29). -/
  halted : Bool
deriving DecidableEq, Repr

/-- The address space's state (10_state.md R31 to R39). -/
structure AddressSpace where
  /-- The cartridge buffer, bytes `0` to `cartLen - 1`, never written by the block (R31). -/
  cart : Memory
  /-- The image's length in bytes (R31). -/
  cartLen : Nat
  /-- The ROM bank count, from header byte 0x0148 (R32). -/
  romBankCount : Nat
  /-- The external RAM bank count, from header byte 0x0149 (R32). -/
  ramBankCount : Nat
  /-- The RAM-enable latch (R33). -/
  ramEnabled : Bool
  /-- The banking-mode latch: false is rom-banking mode, true is ram-banking mode (R34). -/
  bankingMode : Bool
  /-- The ROM bank index register (R35). -/
  romBank : BitVec 7
  /-- The RAM bank index register (R36). -/
  ramBank : BitVec 2
  /-- Video RAM, 0x2000 bytes (R37). -/
  vram : Memory
  /-- Working RAM, 0x2000 bytes (R37). -/
  wram : Memory
  /-- High RAM, 127 bytes (R37). -/
  hram : Memory
  /-- Object attribute memory, 160 bytes (R37, R38). -/
  oam : Memory
  /-- External RAM, `ramBankCount * 0x2000` bytes (R37). -/
  eram : Memory
  /-- The interrupt-enable register at 0xFFFF, plain storage (R39). -/
  ie : Byte
deriving DecidableEq, Repr

/-- The graphics timer's state (10_state.md R40 to R49). -/
structure Display where
  /-- LCDC, inert storage (R41). -/
  lcdc : Byte
  /-- STAT (R42). -/
  stat : Byte
  /-- SCY (R43). -/
  scy : Byte
  /-- SCX (R43). -/
  scx : Byte
  /-- LY, the current scanline (R44). -/
  ly : Byte
  /-- LYC, the scanline compare (R45). -/
  lyc : Byte
  /-- BGP, the background palette (R46). -/
  bgp : Byte
  /-- OBP0, inert storage (R47). -/
  obp0 : Byte
  /-- OBP1, inert storage (R47). -/
  obp1 : Byte
  /-- The display mode (R48). -/
  mode : Mode
  /-- Cycle units elapsed in the current mode (R48). -/
  modeClock : Nat
  /-- The frame buffer as shade numbers, cell (y, x) at key `160 * y + x` (R49, R311 lets a model keep the shade
  number and apply SHADE in the accessor). -/
  fb : Cells 2
  /-- LY wraps from 153 to 0 so far (R49). -/
  frameCount : Nat
deriving DecidableEq, Repr

/-- The whole block: the engine, the address space, the graphics timer, and two fields of the model's own. -/
structure State where
  /-- The engine register file. -/
  regs : Regs
  /-- The address space. -/
  bus : AddressSpace
  /-- The graphics timer. -/
  display : Display
  /-- The model's own: the accesses that peripherals outside the block have seen, latest first; the `history` of
  `Config.ioExtRead` (log entry 3). -/
  ioHistory : List IoEvent
  /-- The model's own: what the latest engine step returned, `none` before the first (log entry 1). -/
  outcome : Option StepOutcome
deriving DecidableEq, Repr

/-- Why a step stops with a fault: never. Memory access is total and no instruction traps (60_exceptions.md R283,
R284, 93_implementation_defined.md), so the type has no constructor and no step can raise one. -/
inductive Fault where
deriving DecidableEq, Repr

/-- Why a step is refused. -/
inductive Refusal where
  /-- Raised by an arm of `exec` for an instruction the model gives no meaning yet; safe. No arm raises it now. -/
  | notModelled (mnemonic : String)
deriving DecidableEq, Repr

/-- The engine registers right after construction (10_state.md R50, 70_reset_and_hazards.md R331). -/
def Regs.reset : Regs where
  a := 0x01
  f := 0xB0
  b := 0x00
  c := 0x13
  d := 0x00
  e := 0xD8
  h := 0x01
  l := 0x4D
  sp := 0xFFFE
  pc := 0x0100
  ime := false
  halted := false

/-- The address space right after construction (10_state.md R50, R332) from an all-zero image of 0x8000 bytes
(header codes 0 and 0: 2 ROM banks, no RAM banks) and zero storage (log entries 4 and 5). -/
def AddressSpace.reset : AddressSpace where
  cart := []
  cartLen := 0x8000
  romBankCount := 2
  ramBankCount := 0
  ramEnabled := false
  bankingMode := false
  romBank := 1
  ramBank := 0
  vram := []
  wram := []
  hram := []
  oam := []
  eram := []
  ie := 0x00

/-- The graphics timer right after construction (10_state.md R50, 70_reset_and_hazards.md R333). -/
def Display.reset : Display where
  lcdc := 0x91
  stat := 0x86
  scy := 0x00
  scx := 0x00
  ly := 0
  lyc := 0
  bgp := 0xFC
  obp0 := 0xFF
  obp1 := 0xFF
  mode := .oamScan
  modeClock := 0
  fb := []
  frameCount := 0

/-- The machine right after construction with the image and the storage contents of log entries 4 and 5; `construct`
(Machine/Construct.lean) gives the state for every image and every contents. -/
def State.reset : State where
  regs := Regs.reset
  bus := AddressSpace.reset
  display := Display.reset
  ioHistory := []
  outcome := none

end Sys2Proof.Machine
end

