-- ==== Sys2Proof/Machine/Memory.lean ====
section
/-! DEFINITION. The operations over one sparse store: read, write, canonical form, and the store that holds a given
content. -/

namespace Sys2Proof.Machine

/-- The value at key `a`; an unlisted key reads as zero. -/
def Memory.get {w : Nat} : Cells w → Nat → BitVec w
  | [], _ => 0
  | (k, v) :: m, a => if k = a then v else Memory.get m a

/-- The store without any entry for `a`. -/
def Memory.erase {w : Nat} (m : Cells w) (a : Nat) : Cells w :=
  m.filter fun cell => cell.1 != a

/-- The store with `(a, v)` put before the first larger key. -/
def Memory.insert {w : Nat} : Cells w → Nat → BitVec w → Cells w
  | [], a, v => [(a, v)]
  | (k, x) :: m, a, v => if a < k then (a, v) :: (k, x) :: m else (k, x) :: Memory.insert m a v

/-- Write `v` at key `a`; writing zero removes the entry, which keeps the canonical form. -/
def Memory.set {w : Nat} (m : Cells w) (a : Nat) (v : BitVec w) : Cells w :=
  if v = 0 then Memory.erase m a else Memory.insert (Memory.erase m a) a v

/-- The canonical form: keys strictly rising and no zero value. -/
def Memory.wf {w : Nat} : Cells w → Bool
  | [] => true
  | (k, v) :: m => decide (v ≠ 0) && (m.all fun cell => decide (k < cell.1)) && Memory.wf m

/-- Every key is below `size`: the store fits its region. -/
def Memory.below {w : Nat} (size : Nat) (m : Cells w) : Bool :=
  m.all fun cell => decide (cell.1 < size)

/-- The canonical list of the `n` values `f i`, `f (i + 1)`, … at keys `i`, `i + 1`, …. -/
def Memory.ofFnFrom {w : Nat} (f : Nat → BitVec w) : Nat → Nat → Cells w
  | 0, _ => []
  | n + 1, i =>
    if f i = 0 then Memory.ofFnFrom f n (i + 1) else (i, f i) :: Memory.ofFnFrom f n (i + 1)

/-- The store of `n` cells whose cell `i` holds `f i`. -/
def Memory.ofFn {w : Nat} (n : Nat) (f : Nat → BitVec w) : Cells w :=
  Memory.ofFnFrom f n 0

end Sys2Proof.Machine
end

