-- ==== Sys2Proof/Machine/Ops.lean ====
section
/-! DEFINITION. The address space's read and write functions with the bank-switch protocol (20_memory.md), the memory,
fetch-independent stack and outcome primitives (00_scope.md R13, R15, R16). The block takes no exception: nothing saves
state or goes to a vector (60_exceptions.md R288), so there is no exception entry to share; the one outcome that is not
a completed instruction or a halt, `UnimplementedOpcode`, is `raiseUnimplemented`. -/

namespace Sys2Proof.Machine

/-- How every instruction's meaning ends. -/
abbrev Out := Host.Outcome State Fault Refusal

/-! ### The region table -/

/-- The rows of the region table (20_memory.md R56). -/
inductive Region where
  | romFixed
  | romBanked
  | vram
  | eram
  | wram
  | echo
  | oam
  | unmapped
  | io
  | hram
  | ie
deriving DecidableEq, Repr

/-- The region an address lies in (R56, half-open ranges). -/
def regionOf (addr : Word) : Region :=
  let a := addr.toNat
  if a < 0x4000 then .romFixed
  else if a < 0x8000 then .romBanked
  else if a < 0xA000 then .vram
  else if a < 0xC000 then .eram
  else if a < 0xE000 then .wram
  else if a < 0xFE00 then .echo
  else if a < 0xFEA0 then .oam
  else if a < 0xFF00 then .unmapped
  else if a < 0xFF80 then .io
  else if a < 0xFFFF then .hram
  else .ie

/-! ### Banking -/

/-- `effRomBank()` (R61): the register reduced to the bank count, 0 coerced to 1. -/
def AddressSpace.effRomBank (b : AddressSpace) : Nat :=
  let n := b.romBank.toNat &&& (b.romBankCount - 1)
  if n = 0 then 1 else n

/-- `effRamBank()` (R62): the register reduced to the bank count, whatever the banking mode. -/
def AddressSpace.effRamBank (b : AddressSpace) : Nat :=
  b.ramBank.toNat &&& (b.ramBankCount - 1)

/-- External RAM is reached only if it is enabled and present (R62). -/
def AddressSpace.eramReachable (b : AddressSpace) : Bool :=
  b.ramEnabled && decide (0 < b.ramBankCount)

/-- `cartByte(o)` (R57, R59, R60): the cartridge byte at offset `o`, 0xFF at or beyond the image's length. -/
def AddressSpace.cartByte (b : AddressSpace) (o : Nat) : Byte :=
  if o < b.cartLen then Memory.get b.cart o else 0xFF

/-- The cartridge offset behind an address of [0x4000, 0x8000) (R60). -/
def AddressSpace.romOffset (b : AddressSpace) (addr : Word) : Nat :=
  b.effRomBank * 0x4000 + (addr.toNat - 0x4000)

/-- The offset into ERAM behind an address of [0xA000, 0xC000) (R62). -/
def AddressSpace.eramOffset (b : AddressSpace) (addr : Word) : Nat :=
  b.effRamBank * 0x2000 + (addr.toNat - 0xA000)

/-- A write of `v` to [0x0000, 0x2000): the RAM-enable latch (R69). -/
def AddressSpace.bankWriteRamEnable (b : AddressSpace) (v : Byte) : AddressSpace :=
  { b with ramEnabled := v &&& 0x0F == 0x0A }

/-- A write of `v` to [0x2000, 0x4000): bits 4:0 of the ROM bank index, 0 coerced to 1 (R70). -/
def AddressSpace.bankWriteRomLow (b : AddressSpace) (v : Byte) : AddressSpace :=
  let low : BitVec 7 := (v &&& 0x1F).setWidth 7
  let low := if low = 0 then 1 else low
  { b with romBank := (b.romBank &&& 0x60) ||| low }

/-- A write of `v` to [0x4000, 0x6000): bits 6:5 of the ROM bank index, or the RAM bank index (R71). -/
def AddressSpace.bankWriteUpper (b : AddressSpace) (v : Byte) : AddressSpace :=
  if b.bankingMode then { b with ramBank := v.setWidth 2 }
  else { b with romBank := (b.romBank &&& 0x1F) ||| ((v &&& 0x03).setWidth 7 <<< 5) }

/-- A write of `v` to [0x6000, 0x8000): the banking-mode latch from bit 0 (R72). -/
def AddressSpace.bankWriteMode (b : AddressSpace) (v : Byte) : AddressSpace :=
  { b with bankingMode := v.getLsbD 0 }

/-! ### The display registers -/

/-- The display registers that have an address (10_state.md R40). -/
inductive DisplayReg where
  | lcdc
  | stat
  | scy
  | scx
  | ly
  | lyc
  | bgp
  | obp0
  | obp1
deriving DecidableEq, Repr

/-- The display register at an address, none at the I/O addresses that belong to peripherals outside the block (R40,
20_memory.md R66). -/
def displayReg (addr : Word) : Option DisplayReg :=
  let a := addr.toNat
  if a = 0xFF40 then some .lcdc
  else if a = 0xFF41 then some .stat
  else if a = 0xFF42 then some .scy
  else if a = 0xFF43 then some .scx
  else if a = 0xFF44 then some .ly
  else if a = 0xFF45 then some .lyc
  else if a = 0xFF47 then some .bgp
  else if a = 0xFF48 then some .obp0
  else if a = 0xFF49 then some .obp1
  else none

/-- A read of a display register (R66). -/
def Display.read (d : Display) : DisplayReg → Byte
  | .lcdc => d.lcdc
  | .stat => d.stat
  | .scy => d.scy
  | .scx => d.scx
  | .ly => d.ly
  | .lyc => d.lyc
  | .bgp => d.bgp
  | .obp0 => d.obp0
  | .obp1 => d.obp1

/-- An engine write of `v` to a display register (R66): STAT takes only bits 6:3 and keeps bits 2:0 (10_state.md R42), a
write to LY is discarded (R44). -/
def Display.write (d : Display) (r : DisplayReg) (v : Byte) : Display :=
  match r with
  | .lcdc => { d with lcdc := v }
  | .stat => { d with stat := (d.stat &&& 0x07) ||| (v &&& 0x78) ||| 0x80 }
  | .scy => { d with scy := v }
  | .scx => { d with scx := v }
  | .ly => d
  | .lyc => { d with lyc := v }
  | .bgp => { d with bgp := v }
  | .obp0 => { d with obp0 := v }
  | .obp1 => { d with obp1 := v }

/-- The address belongs to a peripheral outside the block: an I/O address that is no display register (R66). -/
def isExternalIo (addr : Word) : Bool :=
  decide (regionOf addr = .io) && (displayReg addr).isNone

/-! ### Read and write -/

/-- `read(addr)` (20_memory.md R57): the byte that a read of the address returns in this state. Total; it writes
nothing. -/
def State.peek (s : State) (addr : Word) : Byte :=
  match regionOf addr with
  | .romFixed => s.bus.cartByte addr.toNat
  | .romBanked => s.bus.cartByte (s.bus.romOffset addr)
  | .vram => Memory.get s.bus.vram (addr.toNat - 0x8000)
  | .eram => if s.bus.eramReachable then Memory.get s.bus.eram (s.bus.eramOffset addr) else 0xFF
  | .wram => Memory.get s.bus.wram (addr.toNat - 0xC000)
  | .echo => Memory.get s.bus.wram (addr.toNat - 0xE000)
  | .oam => Memory.get s.bus.oam (addr.toNat - 0xFE00)
  | .unmapped => 0xFF
  | .io =>
    match displayReg addr with
    | some r => s.display.read r
    | none => Config.ioExtRead s.ioHistory addr
  | .hram => Memory.get s.bus.hram (addr.toNat - 0xFF80)
  | .ie => s.bus.ie

/-- The state after a read of the address: the block is unchanged (R79); a peripheral outside it has seen the read
(R66), so that its next answer is a fresh draw (log entry 3). -/
def State.afterRead (s : State) (addr : Word) : State :=
  if isExternalIo addr then { s with ioHistory := .read addr :: s.ioHistory } else s

/-- `write(addr, v)` (20_memory.md R58): total; a write to a read-only or unmapped region is discarded, or below 0x8000
drives the bank-switch protocol. -/
def State.store (s : State) (addr : Word) (v : Byte) : State :=
  match regionOf addr with
  | .romFixed =>
    if addr.toNat < 0x2000 then { s with bus := s.bus.bankWriteRamEnable v }
    else { s with bus := s.bus.bankWriteRomLow v }
  | .romBanked =>
    if addr.toNat < 0x6000 then { s with bus := s.bus.bankWriteUpper v }
    else { s with bus := s.bus.bankWriteMode v }
  | .vram => { s with bus.vram := Memory.set s.bus.vram (addr.toNat - 0x8000) v }
  | .eram =>
    if s.bus.eramReachable then { s with bus.eram := Memory.set s.bus.eram (s.bus.eramOffset addr) v } else s
  | .wram => { s with bus.wram := Memory.set s.bus.wram (addr.toNat - 0xC000) v }
  | .echo => { s with bus.wram := Memory.set s.bus.wram (addr.toNat - 0xE000) v }
  | .oam => { s with bus.oam := Memory.set s.bus.oam (addr.toNat - 0xFE00) v }
  | .unmapped => s
  | .io =>
    match displayReg addr with
    | some r => { s with display := s.display.write r v }
    | none => { s with ioHistory := .write addr v :: s.ioHistory }
  | .hram => { s with bus.hram := Memory.set s.bus.hram (addr.toNat - 0xFF80) v }
  | .ie => { s with bus.ie := v }

/-- `MemRead(addr, 2)` (00_scope.md R13, 20_memory.md R77): the low byte is read first; the high byte's address
wraps. -/
def State.peekWord (s : State) (addr : Word) : Word :=
  mkWord ((s.afterRead addr).peek (addr + 1)) (s.peek addr)

/-- The state after `MemRead(addr, 2)`. -/
def State.afterReadWord (s : State) (addr : Word) : State :=
  (s.afterRead addr).afterRead (addr + 1)

/-- `MemWrite(addr, 2, v)` (00_scope.md R13, 20_memory.md R78): the low byte at `addr`, then the high byte at the next
address, which wraps. -/
def State.storeWord (s : State) (addr : Word) (v : Word) : State :=
  (s.store addr (loByte v)).store (addr + 1) (hiByte v)

/-! ### PC, SP and the stack -/

/-- PC written. -/
def State.setPc (s : State) (v : Word) : State := { s with regs.pc := v }

/-- SP written. -/
def State.setSp (s : State) (v : Word) : State := { s with regs.sp := v }

/-- One byte pushed: SP decremented, then the byte written at SP (00_scope.md R15). -/
def State.push8 (s : State) (v : Byte) : State :=
  (s.setSp (s.regs.sp - 1)).store (s.regs.sp - 1) v

/-- `push16(v)` (R15): the high byte first, at the higher address. -/
def State.push16 (s : State) (v : Word) : State :=
  (s.push8 (hiByte v)).push8 (loByte v)

/-- The state after one byte is popped: the byte at SP read, then SP incremented (R15). -/
def State.afterPop8 (s : State) : State :=
  (s.afterRead s.regs.sp).setSp (s.regs.sp + 1)

/-- The word `pop16()` returns (R15): the low byte is popped first. -/
def State.pop16 (s : State) : Word :=
  mkWord (s.afterPop8.peek s.afterPop8.regs.sp) (s.peek s.regs.sp)

/-- The state after `pop16()` (R15). -/
def State.afterPop16 (s : State) : State := s.afterPop8.afterPop8

/-! ### Outcomes -/

/-- `return Cycles(n)` (00_scope.md R16). -/
def finish (n : Nat) (s : State) : Out :=
  .next { s with outcome := some (.cycles n) }

/-- `halted <- 1; return Halted` (45_system.md R271, R272). -/
def haltEngine (s : State) : Out :=
  .next { s with regs.halted := true, outcome := some .halted }

/-- The outcome `UnimplementedOpcode` (60_exceptions.md R281): the opcode fetch has advanced PC, nothing else is
committed (log entry 1). -/
def raiseUnimplemented (s : State) : Out :=
  .next { s with outcome := some .unimplementedOpcode }

end Sys2Proof.Machine
end

