-- ==== Sys2Proof/Machine/Flags.lean ====
section
/-! DEFINITION. The flags of F and every result and flag computation of the instruction set: the flag contract
(41_alu8.md R170), the logic, increment and decimal-adjust rules, the 16-bit rules (42_alu16.md) and the rotate and shift
functions (43_bitops.md R219). Results are computed exactly and narrowed at the end (R203, R215). -/

namespace Sys2Proof.Machine

/-! ### The flags -/

/-- `FZ = F[7]` (10_state.md R24). -/
def State.fz (s : State) : Bool := s.regs.f.getLsbD 7

/-- `FN = F[6]` (R24). -/
def State.fn (s : State) : Bool := s.regs.f.getLsbD 6

/-- `FH = F[5]` (R24). -/
def State.fh (s : State) : Bool := s.regs.f.getLsbD 5

/-- `FC = F[4]` (R24). -/
def State.fc (s : State) : Bool := s.regs.f.getLsbD 4

/-- `FZ <- b`, which writes only bit 7 of F (R24). -/
def State.setFz (s : State) (b : Bool) : State := { s with regs.f := putBit s.regs.f 7 b }

/-- `FN <- b`, which writes only bit 6 of F (R24). -/
def State.setFn (s : State) (b : Bool) : State := { s with regs.f := putBit s.regs.f 6 b }

/-- `FH <- b`, which writes only bit 5 of F (R24). -/
def State.setFh (s : State) (b : Bool) : State := { s with regs.f := putBit s.regs.f 5 b }

/-- `FC <- b`, which writes only bit 4 of F (R24). -/
def State.setFc (s : State) (b : Bool) : State := { s with regs.f := putBit s.regs.f 4 b }

/-- `flags <- (z, n, h, c)`: all four flags. -/
def State.setFlags (s : State) (z n h c : Bool) : State :=
  (((s.setFz z).setFn n).setFh h).setFc c

/-! ### 8-bit arithmetic and logic -/

/-- A result byte with the four flags. -/
structure AluResult where
  /-- The 8-bit result. -/
  res : Byte
  /-- Zero. -/
  z : Bool
  /-- Subtract. -/
  n : Bool
  /-- HalfCarry. -/
  h : Bool
  /-- Carry. -/
  c : Bool
deriving DecidableEq, Repr

/-- `add8(a, b, cin)` (R170). -/
def add8 (a b : Byte) (cin : Bool) : AluResult :=
  let s := a.toNat + b.toNat + cin.toNat
  let res : Byte := BitVec.ofNat 8 s
  { res := res
    z := res == 0
    n := false
    h := decide (nibble a + nibble b + cin.toNat > 0xF)
    c := decide (s > 0xFF) }

/-- `sub8(a, b, bin)` (R170). -/
def sub8 (a b : Byte) (bin : Bool) : AluResult :=
  let res : Byte := BitVec.ofInt 8 ((a.toNat : Int) - b.toNat - bin.toNat)
  { res := res
    z := res == 0
    n := true
    h := decide (nibble a < nibble b + bin.toNat)
    c := decide (a.toNat < b.toNat + bin.toNat) }

/-- A logic result (R183, R186, R189): Z from the result, N = 0, H as the operation says, C = 0. -/
def logic8 (res : Byte) (h : Bool) : AluResult :=
  { res := res, z := res == 0, n := false, h := h, c := false }

/-- The result and flags of an ALU operation on A = `a` and operand `b` with carry flag `c` (R171 to R194): ADD, SUB
and CP take no carry in, ADC and SBC take the carry flag; AND sets H, XOR and OR clear it. -/
def aluResult (op : AluOp) (a b : Byte) (c : Bool) : AluResult :=
  match op with
  | .add => add8 a b false
  | .adc => add8 a b c
  | .sub => sub8 a b false
  | .sbc => sub8 a b c
  | .and => logic8 (a &&& b) true
  | .xor => logic8 (a ^^^ b) false
  | .or => logic8 (a ||| b) false
  | .cp => sub8 a b false

/-- The result of INC (R195). -/
def inc8 (v : Byte) : Byte := BitVec.ofNat 8 (v.toNat + 1)

/-- The half carry of INC, from the value before it (R195). -/
def incHalf (v : Byte) : Bool := decide (nibble v + 1 > 0xF)

/-- The result of DEC (R197). -/
def dec8 (v : Byte) : Byte := BitVec.ofInt 8 ((v.toNat : Int) - 1)

/-- The half borrow of DEC, from the value before it (R197). -/
def decHalf (v : Byte) : Bool := decide (nibble v < 1)

/-- DAA (R199): the adjusted A and the new carry, from A and the flags N, H, C. -/
def daaAdjust (a : Byte) (n h c : Bool) : Byte × Bool :=
  if n then
    let a1 : Int := (a.toNat : Int) - (if c then 0x60 else 0)
    let a2 : Int := a1 - (if h then 0x06 else 0)
    (BitVec.ofInt 8 a2, c)
  else
    let c1 := c || decide (a.toNat > 0x99)
    let a1 := a.toNat + (if c1 then 0x60 else 0)
    let a2 := a1 + (if h || decide (a1 % 16 > 0x09) then 0x06 else 0)
    (BitVec.ofNat 8 a2, c1)

/-! ### 16-bit arithmetic -/

/-- The sum of ADD HL,rr (42_alu16.md R210). -/
def add16 (a b : Word) : Word := BitVec.ofNat 16 (a.toNat + b.toNat)

/-- H of ADD HL,rr: the carry out of bit 11 (R210). -/
def add16Half (a b : Word) : Bool := decide (a.toNat % 0x1000 + b.toNat % 0x1000 > 0x0FFF)

/-- C of ADD HL,rr: the carry out of bit 15 (R210). -/
def add16Carry (a b : Word) : Bool := decide (a.toNat + b.toNat > 0xFFFF)

/-- SP plus a signed byte (R213, R214). -/
def spPlus (sp : Word) (e : Byte) : Word := sp + sext8 e

/-- H of ADD SP,e8 and LD HL,SP+e8: the unsigned carry out of bit 3 of the low byte (R213). -/
def spPlusHalf (sp : Word) (e : Byte) : Bool := decide (sp.toNat % 16 + e.toNat % 16 > 0x0F)

/-- C of ADD SP,e8 and LD HL,SP+e8: the unsigned carry out of bit 7 of the low byte (R213). -/
def spPlusCarry (sp : Word) (e : Byte) : Bool := decide (sp.toNat % 256 + e.toNat > 0xFF)

/-! ### Rotates and shifts -/

/-- The result of a rotate or shift of `v` with carry flag `cin` (43_bitops.md R219). -/
def rotResult (op : RotOp) (v : Byte) (cin : Bool) : Byte :=
  match op with
  | .rlc => (v <<< 1) ||| bitByte (v.getLsbD 7)
  | .rrc => (v >>> 1) ||| (bitByte (v.getLsbD 0) <<< 7)
  | .rl => (v <<< 1) ||| bitByte cin
  | .rr => (v >>> 1) ||| (bitByte cin <<< 7)
  | .sla => v <<< 1
  | .sra => (v >>> 1) ||| (v &&& 0x80)
  | .swap => ((v &&& 0x0F) <<< 4) ||| (v >>> 4)
  | .srl => v >>> 1

/-- The carry out of a rotate or shift of `v` (R219): the bit shifted out, 0 for SWAP. -/
def rotCarry (op : RotOp) (v : Byte) : Bool :=
  match op with
  | .rlc => v.getLsbD 7
  | .rrc => v.getLsbD 0
  | .rl => v.getLsbD 7
  | .rr => v.getLsbD 0
  | .sla => v.getLsbD 7
  | .sra => v.getLsbD 0
  | .swap => false
  | .srl => v.getLsbD 0

end Sys2Proof.Machine
end

