-- ==== Sys2Proof/Machine/Operands.lean ====
section
/-! DEFINITION. The operand forms: registers (10_state.md R20 to R26), pairs (R21, R22), conditions (44_control.md R250),
the addresses of the addressing modes (40_loads.md R139), bit indexes and restart vectors (30_encoding.md R129 to
R132). -/

namespace Sys2Proof.Machine

/-! ### Registers and pairs -/

/-- `R[r]` (00_scope.md R12). -/
def State.reg (s : State) : Reg8 → Byte
  | .b => s.regs.b
  | .c => s.regs.c
  | .d => s.regs.d
  | .e => s.regs.e
  | .h => s.regs.h
  | .l => s.regs.l
  | .a => s.regs.a

/-- `R[r] <- v` (00_scope.md R12). -/
def State.setReg (s : State) (r : Reg8) (v : Byte) : State :=
  match r with
  | .b => { s with regs.b := v }
  | .c => { s with regs.c := v }
  | .d => { s with regs.d := v }
  | .e => { s with regs.e := v }
  | .h => { s with regs.h := v }
  | .l => { s with regs.l := v }
  | .a => { s with regs.a := v }

/-- `F <- v` as a whole, as POP AF writes it: the low nibble stays 0 (10_state.md R25). -/
def State.setF (s : State) (v : Byte) : State := { s with regs.f := v &&& 0xF0 }

/-- BC = `{B, C}` (R22). -/
def State.bc (s : State) : Word := mkWord s.regs.b s.regs.c

/-- DE = `{D, E}` (R22). -/
def State.de (s : State) : Word := mkWord s.regs.d s.regs.e

/-- HL = `{H, L}` (R22). -/
def State.hl (s : State) : Word := mkWord s.regs.h s.regs.l

/-- AF = `{A, F}` (R22). -/
def State.af (s : State) : Word := mkWord s.regs.a s.regs.f

/-- `HL <- v` (R22). -/
def State.setHl (s : State) (v : Word) : State := (s.setReg .h (hiByte v)).setReg .l (loByte v)

/-- `RP[rr]`, SP for `rr = 3` (30_encoding.md R127). -/
def State.pair (s : State) : Pair → Word
  | .bc => s.bc
  | .de => s.de
  | .hl => s.hl
  | .sp => s.regs.sp

/-- `RP[rr] <- v`, SP for `rr = 3` (R127). -/
def State.setPair (s : State) (p : Pair) (v : Word) : State :=
  match p with
  | .bc => (s.setReg .b (hiByte v)).setReg .c (loByte v)
  | .de => (s.setReg .d (hiByte v)).setReg .e (loByte v)
  | .hl => s.setHl v
  | .sp => s.setSp v

/-- `RP[qq]` (R128). -/
def State.stackPair (s : State) : StackPair → Word
  | .bc => s.bc
  | .de => s.de
  | .hl => s.hl
  | .af => s.af

/-- `RP[qq] <- v` (R128); for AF the low nibble of F stays 0 (10_state.md R25). -/
def State.setStackPair (s : State) (p : StackPair) (v : Word) : State :=
  match p with
  | .bc => (s.setReg .b (hiByte v)).setReg .c (loByte v)
  | .de => (s.setReg .d (hiByte v)).setReg .e (loByte v)
  | .hl => s.setHl v
  | .af => (s.setReg .a (hiByte v)).setF (loByte v)

/-! ### Conditions, bits, vectors, addresses -/

/-- `cond(cc)` (44_control.md R250). -/
def State.holds (s : State) : Cond → Bool
  | .nz => !s.fz
  | .z => s.fz
  | .nc => !s.fc
  | .c => s.fc

/-- The bit index as a number (30_encoding.md R131). -/
def bitNumber : BitIndex → Nat
  | .b0 => 0
  | .b1 => 1
  | .b2 => 2
  | .b3 => 3
  | .b4 => 4
  | .b5 => 5
  | .b6 => 6
  | .b7 => 7

/-- The address of a restart vector, `t * 8` (R130). -/
def vecAddress : Vec → Word
  | .v00 => 0x00
  | .v08 => 0x08
  | .v10 => 0x10
  | .v18 => 0x18
  | .v20 => 0x20
  | .v28 => 0x28
  | .v30 => 0x30
  | .v38 => 0x38

/-- The high-page address `0xFF00 + n` of LDH and of `(C)` (40_loads.md R139). -/
def highPage (n : Byte) : Word := mkWord 0xFF n

end Sys2Proof.Machine
end

