-- ==== Sys2Proof/Machine/Alu16.lean ====
section
/-! DEFINITION. 16-bit arithmetic (42_alu16.md). -/

namespace Sys2Proof.Machine

/-! ### The shared operations -/

/-- `ADD HL,rr`: N cleared, H and C from bits 11 and 15, Z kept (R210). -/
def addHlPair (p : Pair) (s : State) : Out :=
  finish 2
    ((((s.setHl (add16 s.hl (s.pair p))).setFn false).setFh (add16Half s.hl (s.pair p))).setFc
      (add16Carry s.hl (s.pair p)))

/-- `INC rr`, no flag (R211). -/
def incPair (p : Pair) (s : State) : Out := finish 2 (s.setPair p (s.pair p + 1))

/-- `DEC rr`, no flag (R212). -/
def decPair (p : Pair) (s : State) : Out := finish 2 (s.setPair p (s.pair p - 1))

/-- The flags of ADD SP,e8 and LD HL,SP+e8: 0 0 H C from the unsigned low-byte sum (R213, R214). -/
def spPlusFlags (sp : Word) (e : Byte) (s : State) : State :=
  s.setFlags false false (spPlusHalf sp e) (spPlusCarry sp e)

/-- `ADD SP,e8` (R213). -/
def addSpSigned (e : Byte) (s : State) : Out :=
  finish 4 (spPlusFlags s.regs.sp e (s.setSp (spPlus s.regs.sp e)))

/-- `LD HL,SP+e8`: SP is not written (R214). -/
def loadHlSpSigned (e : Byte) (s : State) : Out :=
  finish 3 (spPlusFlags s.regs.sp e (s.setHl (spPlus s.regs.sp e)))

/-! ### The meanings, one per row of the table -/

/-- `INC BC` (R211). -/
def execIncBc (s : State) : Out := incPair .bc s

/-- `ADD HL,BC` (R210). -/
def execAddHlBc (s : State) : Out := addHlPair .bc s

/-- `DEC BC` (R212). -/
def execDecBc (s : State) : Out := decPair .bc s

/-- `INC DE` (R211). -/
def execIncDe (s : State) : Out := incPair .de s

/-- `ADD HL,DE` (R210). -/
def execAddHlDe (s : State) : Out := addHlPair .de s

/-- `DEC DE` (R212). -/
def execDecDe (s : State) : Out := decPair .de s

/-- `INC HL` (R211). -/
def execIncHl (s : State) : Out := incPair .hl s

/-- `ADD HL,HL` (R210). -/
def execAddHlHl (s : State) : Out := addHlPair .hl s

/-- `DEC HL` (R212). -/
def execDecHl (s : State) : Out := decPair .hl s

/-- `INC SP` (R211). -/
def execIncSp (s : State) : Out := incPair .sp s

/-- `ADD HL,SP` (R210). -/
def execAddHlSp (s : State) : Out := addHlPair .sp s

/-- `DEC SP` (R212). -/
def execDecSp (s : State) : Out := decPair .sp s

/-- `ADD SP,e8` (R213). -/
def execAddSpE8 (e : Byte) (s : State) : Out := addSpSigned e s

/-- `LD HL,SP+e8` (R214). -/
def execLdHlSpE8 (e : Byte) (s : State) : Out := loadHlSpSigned e s

end Sys2Proof.Machine
end

