-- ==== Sys2Proof/Machine/Alu8.lean ====
section
/-! DEFINITION. 8-bit arithmetic and logic (41_alu8.md). Every flag is computed from the values before any write
(R170). -/

namespace Sys2Proof.Machine

/-! ### The shared operations -/

/-- An ALU operation on A and `b`: the four flags written, and A, but by CP (R171 to R194). -/
def applyAlu (op : AluOp) (b : Byte) (s : State) : State :=
  let r := aluResult op s.regs.a b s.fc
  let t := s.setFlags r.z r.n r.h r.c
  match op with
  | .cp => t
  | _ => t.setReg .a r.res

/-- The ALU operation with a register operand. -/
def aluReg (op : AluOp) (r : Reg8) (s : State) : Out := finish 1 (applyAlu op (s.reg r) s)

/-- The ALU operation with operand `(HL)`. -/
def aluHl (op : AluOp) (s : State) : Out := finish 2 (applyAlu op (s.peek s.hl) (s.afterRead s.hl))

/-- The ALU operation with operand `d8`. -/
def aluImm (op : AluOp) (v : Byte) (s : State) : Out := finish 2 (applyAlu op v s)

/-- The flags of INC of a value `v`: Z 0 H, C kept (R195). -/
def incFlags (v : Byte) (s : State) : State := ((s.setFz (inc8 v == 0)).setFn false).setFh (incHalf v)

/-- The flags of DEC of a value `v`: Z 1 H, C kept (R197). -/
def decFlags (v : Byte) (s : State) : State := ((s.setFz (dec8 v == 0)).setFn true).setFh (decHalf v)

/-- `INC r` (R195). -/
def incReg (r : Reg8) (s : State) : Out := finish 1 (incFlags (s.reg r) (s.setReg r (inc8 (s.reg r))))

/-- `INC (HL)`: the flags are written whether or not the store is discarded (R196). -/
def incHl (s : State) : Out :=
  finish 3 (incFlags (s.peek s.hl) ((s.afterRead s.hl).store s.hl (inc8 (s.peek s.hl))))

/-- `DEC r` (R197). -/
def decReg (r : Reg8) (s : State) : Out := finish 1 (decFlags (s.reg r) (s.setReg r (dec8 (s.reg r))))

/-- `DEC (HL)` (R198). -/
def decHl (s : State) : Out :=
  finish 3 (decFlags (s.peek s.hl) ((s.afterRead s.hl).store s.hl (dec8 (s.peek s.hl))))

/-- DAA: A adjusted, Z and C written, H cleared, N kept (R199). -/
def decimalAdjust (s : State) : Out :=
  let r := daaAdjust s.regs.a s.fn s.fh s.fc
  finish 1 ((((s.setReg .a r.1).setFz (r.1 == 0)).setFh false).setFc r.2)

/-- CPL: N and H set, Z and C kept (R200). -/
def complementA (s : State) : Out := finish 1 (((s.setReg .a (s.regs.a ^^^ 0xFF)).setFn true).setFh true)

/-- SCF (R201). -/
def setCarry (s : State) : Out := finish 1 (((s.setFn false).setFh false).setFc true)

/-- CCF (R202). -/
def complementCarry (s : State) : Out := finish 1 (((s.setFn false).setFh false).setFc (!s.fc))

/-! ### The meanings, one per row of the table -/

/-- `INC B` (R195). -/
def execIncB (s : State) : Out := incReg .b s

/-- `DEC B` (R197). -/
def execDecB (s : State) : Out := decReg .b s

/-- `INC C` (R195). -/
def execIncC (s : State) : Out := incReg .c s

/-- `DEC C` (R197). -/
def execDecC (s : State) : Out := decReg .c s

/-- `INC D` (R195). -/
def execIncD (s : State) : Out := incReg .d s

/-- `DEC D` (R197). -/
def execDecD (s : State) : Out := decReg .d s

/-- `INC E` (R195). -/
def execIncE (s : State) : Out := incReg .e s

/-- `DEC E` (R197). -/
def execDecE (s : State) : Out := decReg .e s

/-- `INC H` (R195). -/
def execIncH (s : State) : Out := incReg .h s

/-- `DEC H` (R197). -/
def execDecH (s : State) : Out := decReg .h s

/-- `DAA` (R199). -/
def execDaa (s : State) : Out := decimalAdjust s

/-- `INC L` (R195). -/
def execIncL (s : State) : Out := incReg .l s

/-- `DEC L` (R197). -/
def execDecL (s : State) : Out := decReg .l s

/-- `CPL` (R200). -/
def execCpl (s : State) : Out := complementA s

/-- `INC (HL)` (R196). -/
def execIncMemHl (s : State) : Out := incHl s

/-- `DEC (HL)` (R198). -/
def execDecMemHl (s : State) : Out := decHl s

/-- `SCF` (R201). -/
def execScf (s : State) : Out := setCarry s

/-- `INC A` (R195). -/
def execIncA (s : State) : Out := incReg .a s

/-- `DEC A` (R197). -/
def execDecA (s : State) : Out := decReg .a s

/-- `CCF` (R202). -/
def execCcf (s : State) : Out := complementCarry s

/-- `ADD A,B` (R171). -/
def execAddAB (s : State) : Out := aluReg .add .b s

/-- `ADD A,C` (R171). -/
def execAddAC (s : State) : Out := aluReg .add .c s

/-- `ADD A,D` (R171). -/
def execAddAD (s : State) : Out := aluReg .add .d s

/-- `ADD A,E` (R171). -/
def execAddAE (s : State) : Out := aluReg .add .e s

/-- `ADD A,H` (R171). -/
def execAddAH (s : State) : Out := aluReg .add .h s

/-- `ADD A,L` (R171). -/
def execAddAL (s : State) : Out := aluReg .add .l s

/-- `ADD A,(HL)` (R172). -/
def execAddAMemHl (s : State) : Out := aluHl .add s

/-- `ADD A,A` (R171). -/
def execAddAA (s : State) : Out := aluReg .add .a s

/-- `ADC A,B` (R174). -/
def execAdcAB (s : State) : Out := aluReg .adc .b s

/-- `ADC A,C` (R174). -/
def execAdcAC (s : State) : Out := aluReg .adc .c s

/-- `ADC A,D` (R174). -/
def execAdcAD (s : State) : Out := aluReg .adc .d s

/-- `ADC A,E` (R174). -/
def execAdcAE (s : State) : Out := aluReg .adc .e s

/-- `ADC A,H` (R174). -/
def execAdcAH (s : State) : Out := aluReg .adc .h s

/-- `ADC A,L` (R174). -/
def execAdcAL (s : State) : Out := aluReg .adc .l s

/-- `ADC A,(HL)` (R175). -/
def execAdcAMemHl (s : State) : Out := aluHl .adc s

/-- `ADC A,A` (R174). -/
def execAdcAA (s : State) : Out := aluReg .adc .a s

/-- `SUB B` (R177). -/
def execSubB (s : State) : Out := aluReg .sub .b s

/-- `SUB C` (R177). -/
def execSubC (s : State) : Out := aluReg .sub .c s

/-- `SUB D` (R177). -/
def execSubD (s : State) : Out := aluReg .sub .d s

/-- `SUB E` (R177). -/
def execSubE (s : State) : Out := aluReg .sub .e s

/-- `SUB H` (R177). -/
def execSubH (s : State) : Out := aluReg .sub .h s

/-- `SUB L` (R177). -/
def execSubL (s : State) : Out := aluReg .sub .l s

/-- `SUB (HL)` (R178). -/
def execSubMemHl (s : State) : Out := aluHl .sub s

/-- `SUB A` (R177). -/
def execSubA (s : State) : Out := aluReg .sub .a s

/-- `SBC A,B` (R180). -/
def execSbcAB (s : State) : Out := aluReg .sbc .b s

/-- `SBC A,C` (R180). -/
def execSbcAC (s : State) : Out := aluReg .sbc .c s

/-- `SBC A,D` (R180). -/
def execSbcAD (s : State) : Out := aluReg .sbc .d s

/-- `SBC A,E` (R180). -/
def execSbcAE (s : State) : Out := aluReg .sbc .e s

/-- `SBC A,H` (R180). -/
def execSbcAH (s : State) : Out := aluReg .sbc .h s

/-- `SBC A,L` (R180). -/
def execSbcAL (s : State) : Out := aluReg .sbc .l s

/-- `SBC A,(HL)` (R181). -/
def execSbcAMemHl (s : State) : Out := aluHl .sbc s

/-- `SBC A,A` (R180). -/
def execSbcAA (s : State) : Out := aluReg .sbc .a s

/-- `AND B` (R183). -/
def execAndB (s : State) : Out := aluReg .and .b s

/-- `AND C` (R183). -/
def execAndC (s : State) : Out := aluReg .and .c s

/-- `AND D` (R183). -/
def execAndD (s : State) : Out := aluReg .and .d s

/-- `AND E` (R183). -/
def execAndE (s : State) : Out := aluReg .and .e s

/-- `AND H` (R183). -/
def execAndH (s : State) : Out := aluReg .and .h s

/-- `AND L` (R183). -/
def execAndL (s : State) : Out := aluReg .and .l s

/-- `AND (HL)` (R184). -/
def execAndMemHl (s : State) : Out := aluHl .and s

/-- `AND A` (R183). -/
def execAndA (s : State) : Out := aluReg .and .a s

/-- `XOR B` (R186). -/
def execXorB (s : State) : Out := aluReg .xor .b s

/-- `XOR C` (R186). -/
def execXorC (s : State) : Out := aluReg .xor .c s

/-- `XOR D` (R186). -/
def execXorD (s : State) : Out := aluReg .xor .d s

/-- `XOR E` (R186). -/
def execXorE (s : State) : Out := aluReg .xor .e s

/-- `XOR H` (R186). -/
def execXorH (s : State) : Out := aluReg .xor .h s

/-- `XOR L` (R186). -/
def execXorL (s : State) : Out := aluReg .xor .l s

/-- `XOR (HL)` (R187). -/
def execXorMemHl (s : State) : Out := aluHl .xor s

/-- `XOR A` (R186). -/
def execXorA (s : State) : Out := aluReg .xor .a s

/-- `OR B` (R189). -/
def execOrB (s : State) : Out := aluReg .or .b s

/-- `OR C` (R189). -/
def execOrC (s : State) : Out := aluReg .or .c s

/-- `OR D` (R189). -/
def execOrD (s : State) : Out := aluReg .or .d s

/-- `OR E` (R189). -/
def execOrE (s : State) : Out := aluReg .or .e s

/-- `OR H` (R189). -/
def execOrH (s : State) : Out := aluReg .or .h s

/-- `OR L` (R189). -/
def execOrL (s : State) : Out := aluReg .or .l s

/-- `OR (HL)` (R190). -/
def execOrMemHl (s : State) : Out := aluHl .or s

/-- `OR A` (R189). -/
def execOrA (s : State) : Out := aluReg .or .a s

/-- `CP B` (R192). -/
def execCpB (s : State) : Out := aluReg .cp .b s

/-- `CP C` (R192). -/
def execCpC (s : State) : Out := aluReg .cp .c s

/-- `CP D` (R192). -/
def execCpD (s : State) : Out := aluReg .cp .d s

/-- `CP E` (R192). -/
def execCpE (s : State) : Out := aluReg .cp .e s

/-- `CP H` (R192). -/
def execCpH (s : State) : Out := aluReg .cp .h s

/-- `CP L` (R192). -/
def execCpL (s : State) : Out := aluReg .cp .l s

/-- `CP (HL)` (R193). -/
def execCpMemHl (s : State) : Out := aluHl .cp s

/-- `CP A` (R192). -/
def execCpA (s : State) : Out := aluReg .cp .a s

/-- `ADD A,d8` (R173). -/
def execAddAD8 (v : Byte) (s : State) : Out := aluImm .add v s

/-- `ADC A,d8` (R176). -/
def execAdcAD8 (v : Byte) (s : State) : Out := aluImm .adc v s

/-- `SUB d8` (R179). -/
def execSubD8 (v : Byte) (s : State) : Out := aluImm .sub v s

/-- `SBC A,d8` (R182). -/
def execSbcAD8 (v : Byte) (s : State) : Out := aluImm .sbc v s

/-- `AND d8` (R185). -/
def execAndD8 (v : Byte) (s : State) : Out := aluImm .and v s

/-- `XOR d8` (R188). -/
def execXorD8 (v : Byte) (s : State) : Out := aluImm .xor v s

/-- `OR d8` (R191). -/
def execOrD8 (v : Byte) (s : State) : Out := aluImm .or v s

/-- `CP d8` (R194). -/
def execCpD8 (v : Byte) (s : State) : Out := aluImm .cp v s

end Sys2Proof.Machine
end

