-- ==== Sys2Proof/Machine/BitOps.lean ====
section
/-! DEFINITION. Rotates, shifts and bit operations (43_bitops.md): the accumulator rotates and the extended table. -/

namespace Sys2Proof.Machine

/-! ### The shared operations -/

/-- The flags of a prefixed rotate or shift of `v`: Z 0 0 C (R224 to R239). -/
def rotFlags (op : RotOp) (v : Byte) (c : Bool) (s : State) : State :=
  s.setFlags (rotResult op v c == 0) false false (rotCarry op v)

/-- RLCA, RRCA, RLA, RRA: flags 0 0 0 C, Z cleared even on a zero result (R220 to R223). -/
def rotA (op : RotOp) (s : State) : Out :=
  finish 1 ((s.setReg .a (rotResult op s.regs.a s.fc)).setFlags false false false (rotCarry op s.regs.a))

/-- A prefixed rotate or shift of a register. -/
def rotReg (op : RotOp) (r : Reg8) (s : State) : Out :=
  finish 2 (rotFlags op (s.reg r) s.fc (s.setReg r (rotResult op (s.reg r) s.fc)))

/-- A prefixed rotate or shift of `(HL)`: the flags are written whether or not the store is discarded. -/
def rotHl (op : RotOp) (s : State) : Out :=
  finish 4
    (rotFlags op (s.peek s.hl) s.fc
      ((s.afterRead s.hl).store s.hl (rotResult op (s.peek s.hl) s.fc)))

/-- The flags of BIT: Z is the complement of the bit, N = 0, H = 1, C kept (R240). -/
def bitFlags (b : BitIndex) (v : Byte) (s : State) : State :=
  ((s.setFz (!v.getLsbD (bitNumber b))).setFn false).setFh true

/-- `BIT b,r` (R240). -/
def bitReg (b : BitIndex) (r : Reg8) (s : State) : Out := finish 2 (bitFlags b (s.reg r) s)

/-- `BIT b,(HL)` (R241). -/
def bitHl (b : BitIndex) (s : State) : Out := finish 3 (bitFlags b (s.peek s.hl) (s.afterRead s.hl))

/-- `RES b,r` (R242). -/
def resReg (b : BitIndex) (r : Reg8) (s : State) : Out :=
  finish 2 (s.setReg r (putBit (s.reg r) (bitNumber b) false))

/-- `RES b,(HL)` (R243). -/
def resHl (b : BitIndex) (s : State) : Out :=
  finish 4 ((s.afterRead s.hl).store s.hl (putBit (s.peek s.hl) (bitNumber b) false))

/-- `SET b,r` (R244). -/
def setReg (b : BitIndex) (r : Reg8) (s : State) : Out :=
  finish 2 (s.setReg r (putBit (s.reg r) (bitNumber b) true))

/-- `SET b,(HL)` (R245). -/
def setHl (b : BitIndex) (s : State) : Out :=
  finish 4 ((s.afterRead s.hl).store s.hl (putBit (s.peek s.hl) (bitNumber b) true))

/-- `execute CB[op2]` (30_encoding.md R120, R125): the row of the extended table that the byte after the prefix selects,
by the fields of R131. -/
def extendedOp (op2 : Byte) (s : State) : Out :=
  let y := op2.toNat / 8 % 8
  match op2.toNat / 64, Reg8.ofField (op2.toNat % 8) with
  | 0, some r => rotReg (RotOp.ofField y) r s
  | 0, none => rotHl (RotOp.ofField y) s
  | 1, some r => bitReg (BitIndex.ofField y) r s
  | 1, none => bitHl (BitIndex.ofField y) s
  | 2, some r => resReg (BitIndex.ofField y) r s
  | 2, none => resHl (BitIndex.ofField y) s
  | _, some r => setReg (BitIndex.ofField y) r s
  | _, none => setHl (BitIndex.ofField y) s

/-! ### The meanings, one per row of the table -/

/-- `RLCA` (R220). -/
def execRlca (s : State) : Out := rotA .rlc s

/-- `RRCA` (R221). -/
def execRrca (s : State) : Out := rotA .rrc s

/-- `RLA` (R222). -/
def execRla (s : State) : Out := rotA .rl s

/-- `RRA` (R223). -/
def execRra (s : State) : Out := rotA .rr s

/-- `PREFIX CB` (R125). -/
def execPrefixCb (op2 : Byte) (s : State) : Out := extendedOp op2 s

/-- `RLC B` (R224). -/
def execRlcB (s : State) : Out := rotReg .rlc .b s

/-- `RLC C` (R224). -/
def execRlcC (s : State) : Out := rotReg .rlc .c s

/-- `RLC D` (R224). -/
def execRlcD (s : State) : Out := rotReg .rlc .d s

/-- `RLC E` (R224). -/
def execRlcE (s : State) : Out := rotReg .rlc .e s

/-- `RLC H` (R224). -/
def execRlcH (s : State) : Out := rotReg .rlc .h s

/-- `RLC L` (R224). -/
def execRlcL (s : State) : Out := rotReg .rlc .l s

/-- `RLC (HL)` (R225). -/
def execRlcMemHl (s : State) : Out := rotHl .rlc s

/-- `RLC A` (R224). -/
def execRlcA (s : State) : Out := rotReg .rlc .a s

/-- `RRC B` (R226). -/
def execRrcB (s : State) : Out := rotReg .rrc .b s

/-- `RRC C` (R226). -/
def execRrcC (s : State) : Out := rotReg .rrc .c s

/-- `RRC D` (R226). -/
def execRrcD (s : State) : Out := rotReg .rrc .d s

/-- `RRC E` (R226). -/
def execRrcE (s : State) : Out := rotReg .rrc .e s

/-- `RRC H` (R226). -/
def execRrcH (s : State) : Out := rotReg .rrc .h s

/-- `RRC L` (R226). -/
def execRrcL (s : State) : Out := rotReg .rrc .l s

/-- `RRC (HL)` (R227). -/
def execRrcMemHl (s : State) : Out := rotHl .rrc s

/-- `RRC A` (R226). -/
def execRrcA (s : State) : Out := rotReg .rrc .a s

/-- `RL B` (R228). -/
def execRlB (s : State) : Out := rotReg .rl .b s

/-- `RL C` (R228). -/
def execRlC (s : State) : Out := rotReg .rl .c s

/-- `RL D` (R228). -/
def execRlD (s : State) : Out := rotReg .rl .d s

/-- `RL E` (R228). -/
def execRlE (s : State) : Out := rotReg .rl .e s

/-- `RL H` (R228). -/
def execRlH (s : State) : Out := rotReg .rl .h s

/-- `RL L` (R228). -/
def execRlL (s : State) : Out := rotReg .rl .l s

/-- `RL (HL)` (R229). -/
def execRlMemHl (s : State) : Out := rotHl .rl s

/-- `RL A` (R228). -/
def execRlA (s : State) : Out := rotReg .rl .a s

/-- `RR B` (R230). -/
def execRrB (s : State) : Out := rotReg .rr .b s

/-- `RR C` (R230). -/
def execRrC (s : State) : Out := rotReg .rr .c s

/-- `RR D` (R230). -/
def execRrD (s : State) : Out := rotReg .rr .d s

/-- `RR E` (R230). -/
def execRrE (s : State) : Out := rotReg .rr .e s

/-- `RR H` (R230). -/
def execRrH (s : State) : Out := rotReg .rr .h s

/-- `RR L` (R230). -/
def execRrL (s : State) : Out := rotReg .rr .l s

/-- `RR (HL)` (R231). -/
def execRrMemHl (s : State) : Out := rotHl .rr s

/-- `RR A` (R230). -/
def execRrA (s : State) : Out := rotReg .rr .a s

/-- `SLA B` (R232). -/
def execSlaB (s : State) : Out := rotReg .sla .b s

/-- `SLA C` (R232). -/
def execSlaC (s : State) : Out := rotReg .sla .c s

/-- `SLA D` (R232). -/
def execSlaD (s : State) : Out := rotReg .sla .d s

/-- `SLA E` (R232). -/
def execSlaE (s : State) : Out := rotReg .sla .e s

/-- `SLA H` (R232). -/
def execSlaH (s : State) : Out := rotReg .sla .h s

/-- `SLA L` (R232). -/
def execSlaL (s : State) : Out := rotReg .sla .l s

/-- `SLA (HL)` (R233). -/
def execSlaMemHl (s : State) : Out := rotHl .sla s

/-- `SLA A` (R232). -/
def execSlaA (s : State) : Out := rotReg .sla .a s

/-- `SRA B` (R234). -/
def execSraB (s : State) : Out := rotReg .sra .b s

/-- `SRA C` (R234). -/
def execSraC (s : State) : Out := rotReg .sra .c s

/-- `SRA D` (R234). -/
def execSraD (s : State) : Out := rotReg .sra .d s

/-- `SRA E` (R234). -/
def execSraE (s : State) : Out := rotReg .sra .e s

/-- `SRA H` (R234). -/
def execSraH (s : State) : Out := rotReg .sra .h s

/-- `SRA L` (R234). -/
def execSraL (s : State) : Out := rotReg .sra .l s

/-- `SRA (HL)` (R235). -/
def execSraMemHl (s : State) : Out := rotHl .sra s

/-- `SRA A` (R234). -/
def execSraA (s : State) : Out := rotReg .sra .a s

/-- `SWAP B` (R236). -/
def execSwapB (s : State) : Out := rotReg .swap .b s

/-- `SWAP C` (R236). -/
def execSwapC (s : State) : Out := rotReg .swap .c s

/-- `SWAP D` (R236). -/
def execSwapD (s : State) : Out := rotReg .swap .d s

/-- `SWAP E` (R236). -/
def execSwapE (s : State) : Out := rotReg .swap .e s

/-- `SWAP H` (R236). -/
def execSwapH (s : State) : Out := rotReg .swap .h s

/-- `SWAP L` (R236). -/
def execSwapL (s : State) : Out := rotReg .swap .l s

/-- `SWAP (HL)` (R237). -/
def execSwapMemHl (s : State) : Out := rotHl .swap s

/-- `SWAP A` (R236). -/
def execSwapA (s : State) : Out := rotReg .swap .a s

/-- `SRL B` (R238). -/
def execSrlB (s : State) : Out := rotReg .srl .b s

/-- `SRL C` (R238). -/
def execSrlC (s : State) : Out := rotReg .srl .c s

/-- `SRL D` (R238). -/
def execSrlD (s : State) : Out := rotReg .srl .d s

/-- `SRL E` (R238). -/
def execSrlE (s : State) : Out := rotReg .srl .e s

/-- `SRL H` (R238). -/
def execSrlH (s : State) : Out := rotReg .srl .h s

/-- `SRL L` (R238). -/
def execSrlL (s : State) : Out := rotReg .srl .l s

/-- `SRL (HL)` (R239). -/
def execSrlMemHl (s : State) : Out := rotHl .srl s

/-- `SRL A` (R238). -/
def execSrlA (s : State) : Out := rotReg .srl .a s

/-- `BIT 0,B` (R240). -/
def execBit0B (s : State) : Out := bitReg .b0 .b s

/-- `BIT 0,C` (R240). -/
def execBit0C (s : State) : Out := bitReg .b0 .c s

/-- `BIT 0,D` (R240). -/
def execBit0D (s : State) : Out := bitReg .b0 .d s

/-- `BIT 0,E` (R240). -/
def execBit0E (s : State) : Out := bitReg .b0 .e s

/-- `BIT 0,H` (R240). -/
def execBit0H (s : State) : Out := bitReg .b0 .h s

/-- `BIT 0,L` (R240). -/
def execBit0L (s : State) : Out := bitReg .b0 .l s

/-- `BIT 0,(HL)` (R241). -/
def execBit0MemHl (s : State) : Out := bitHl .b0 s

/-- `BIT 0,A` (R240). -/
def execBit0A (s : State) : Out := bitReg .b0 .a s

/-- `BIT 1,B` (R240). -/
def execBit1B (s : State) : Out := bitReg .b1 .b s

/-- `BIT 1,C` (R240). -/
def execBit1C (s : State) : Out := bitReg .b1 .c s

/-- `BIT 1,D` (R240). -/
def execBit1D (s : State) : Out := bitReg .b1 .d s

/-- `BIT 1,E` (R240). -/
def execBit1E (s : State) : Out := bitReg .b1 .e s

/-- `BIT 1,H` (R240). -/
def execBit1H (s : State) : Out := bitReg .b1 .h s

/-- `BIT 1,L` (R240). -/
def execBit1L (s : State) : Out := bitReg .b1 .l s

/-- `BIT 1,(HL)` (R241). -/
def execBit1MemHl (s : State) : Out := bitHl .b1 s

/-- `BIT 1,A` (R240). -/
def execBit1A (s : State) : Out := bitReg .b1 .a s

/-- `BIT 2,B` (R240). -/
def execBit2B (s : State) : Out := bitReg .b2 .b s

/-- `BIT 2,C` (R240). -/
def execBit2C (s : State) : Out := bitReg .b2 .c s

/-- `BIT 2,D` (R240). -/
def execBit2D (s : State) : Out := bitReg .b2 .d s

/-- `BIT 2,E` (R240). -/
def execBit2E (s : State) : Out := bitReg .b2 .e s

/-- `BIT 2,H` (R240). -/
def execBit2H (s : State) : Out := bitReg .b2 .h s

/-- `BIT 2,L` (R240). -/
def execBit2L (s : State) : Out := bitReg .b2 .l s

/-- `BIT 2,(HL)` (R241). -/
def execBit2MemHl (s : State) : Out := bitHl .b2 s

/-- `BIT 2,A` (R240). -/
def execBit2A (s : State) : Out := bitReg .b2 .a s

/-- `BIT 3,B` (R240). -/
def execBit3B (s : State) : Out := bitReg .b3 .b s

/-- `BIT 3,C` (R240). -/
def execBit3C (s : State) : Out := bitReg .b3 .c s

/-- `BIT 3,D` (R240). -/
def execBit3D (s : State) : Out := bitReg .b3 .d s

/-- `BIT 3,E` (R240). -/
def execBit3E (s : State) : Out := bitReg .b3 .e s

/-- `BIT 3,H` (R240). -/
def execBit3H (s : State) : Out := bitReg .b3 .h s

/-- `BIT 3,L` (R240). -/
def execBit3L (s : State) : Out := bitReg .b3 .l s

/-- `BIT 3,(HL)` (R241). -/
def execBit3MemHl (s : State) : Out := bitHl .b3 s

/-- `BIT 3,A` (R240). -/
def execBit3A (s : State) : Out := bitReg .b3 .a s

/-- `BIT 4,B` (R240). -/
def execBit4B (s : State) : Out := bitReg .b4 .b s

/-- `BIT 4,C` (R240). -/
def execBit4C (s : State) : Out := bitReg .b4 .c s

/-- `BIT 4,D` (R240). -/
def execBit4D (s : State) : Out := bitReg .b4 .d s

/-- `BIT 4,E` (R240). -/
def execBit4E (s : State) : Out := bitReg .b4 .e s

/-- `BIT 4,H` (R240). -/
def execBit4H (s : State) : Out := bitReg .b4 .h s

/-- `BIT 4,L` (R240). -/
def execBit4L (s : State) : Out := bitReg .b4 .l s

/-- `BIT 4,(HL)` (R241). -/
def execBit4MemHl (s : State) : Out := bitHl .b4 s

/-- `BIT 4,A` (R240). -/
def execBit4A (s : State) : Out := bitReg .b4 .a s

/-- `BIT 5,B` (R240). -/
def execBit5B (s : State) : Out := bitReg .b5 .b s

/-- `BIT 5,C` (R240). -/
def execBit5C (s : State) : Out := bitReg .b5 .c s

/-- `BIT 5,D` (R240). -/
def execBit5D (s : State) : Out := bitReg .b5 .d s

/-- `BIT 5,E` (R240). -/
def execBit5E (s : State) : Out := bitReg .b5 .e s

/-- `BIT 5,H` (R240). -/
def execBit5H (s : State) : Out := bitReg .b5 .h s

/-- `BIT 5,L` (R240). -/
def execBit5L (s : State) : Out := bitReg .b5 .l s

/-- `BIT 5,(HL)` (R241). -/
def execBit5MemHl (s : State) : Out := bitHl .b5 s

/-- `BIT 5,A` (R240). -/
def execBit5A (s : State) : Out := bitReg .b5 .a s

/-- `BIT 6,B` (R240). -/
def execBit6B (s : State) : Out := bitReg .b6 .b s

/-- `BIT 6,C` (R240). -/
def execBit6C (s : State) : Out := bitReg .b6 .c s

/-- `BIT 6,D` (R240). -/
def execBit6D (s : State) : Out := bitReg .b6 .d s

/-- `BIT 6,E` (R240). -/
def execBit6E (s : State) : Out := bitReg .b6 .e s

/-- `BIT 6,H` (R240). -/
def execBit6H (s : State) : Out := bitReg .b6 .h s

/-- `BIT 6,L` (R240). -/
def execBit6L (s : State) : Out := bitReg .b6 .l s

/-- `BIT 6,(HL)` (R241). -/
def execBit6MemHl (s : State) : Out := bitHl .b6 s

/-- `BIT 6,A` (R240). -/
def execBit6A (s : State) : Out := bitReg .b6 .a s

/-- `BIT 7,B` (R240). -/
def execBit7B (s : State) : Out := bitReg .b7 .b s

/-- `BIT 7,C` (R240). -/
def execBit7C (s : State) : Out := bitReg .b7 .c s

/-- `BIT 7,D` (R240). -/
def execBit7D (s : State) : Out := bitReg .b7 .d s

/-- `BIT 7,E` (R240). -/
def execBit7E (s : State) : Out := bitReg .b7 .e s

/-- `BIT 7,H` (R240). -/
def execBit7H (s : State) : Out := bitReg .b7 .h s

/-- `BIT 7,L` (R240). -/
def execBit7L (s : State) : Out := bitReg .b7 .l s

/-- `BIT 7,(HL)` (R241). -/
def execBit7MemHl (s : State) : Out := bitHl .b7 s

/-- `BIT 7,A` (R240). -/
def execBit7A (s : State) : Out := bitReg .b7 .a s

/-- `RES 0,B` (R242). -/
def execRes0B (s : State) : Out := resReg .b0 .b s

/-- `RES 0,C` (R242). -/
def execRes0C (s : State) : Out := resReg .b0 .c s

/-- `RES 0,D` (R242). -/
def execRes0D (s : State) : Out := resReg .b0 .d s

/-- `RES 0,E` (R242). -/
def execRes0E (s : State) : Out := resReg .b0 .e s

/-- `RES 0,H` (R242). -/
def execRes0H (s : State) : Out := resReg .b0 .h s

/-- `RES 0,L` (R242). -/
def execRes0L (s : State) : Out := resReg .b0 .l s

/-- `RES 0,(HL)` (R243). -/
def execRes0MemHl (s : State) : Out := resHl .b0 s

/-- `RES 0,A` (R242). -/
def execRes0A (s : State) : Out := resReg .b0 .a s

/-- `RES 1,B` (R242). -/
def execRes1B (s : State) : Out := resReg .b1 .b s

/-- `RES 1,C` (R242). -/
def execRes1C (s : State) : Out := resReg .b1 .c s

/-- `RES 1,D` (R242). -/
def execRes1D (s : State) : Out := resReg .b1 .d s

/-- `RES 1,E` (R242). -/
def execRes1E (s : State) : Out := resReg .b1 .e s

/-- `RES 1,H` (R242). -/
def execRes1H (s : State) : Out := resReg .b1 .h s

/-- `RES 1,L` (R242). -/
def execRes1L (s : State) : Out := resReg .b1 .l s

/-- `RES 1,(HL)` (R243). -/
def execRes1MemHl (s : State) : Out := resHl .b1 s

/-- `RES 1,A` (R242). -/
def execRes1A (s : State) : Out := resReg .b1 .a s

/-- `RES 2,B` (R242). -/
def execRes2B (s : State) : Out := resReg .b2 .b s

/-- `RES 2,C` (R242). -/
def execRes2C (s : State) : Out := resReg .b2 .c s

/-- `RES 2,D` (R242). -/
def execRes2D (s : State) : Out := resReg .b2 .d s

/-- `RES 2,E` (R242). -/
def execRes2E (s : State) : Out := resReg .b2 .e s

/-- `RES 2,H` (R242). -/
def execRes2H (s : State) : Out := resReg .b2 .h s

/-- `RES 2,L` (R242). -/
def execRes2L (s : State) : Out := resReg .b2 .l s

/-- `RES 2,(HL)` (R243). -/
def execRes2MemHl (s : State) : Out := resHl .b2 s

/-- `RES 2,A` (R242). -/
def execRes2A (s : State) : Out := resReg .b2 .a s

/-- `RES 3,B` (R242). -/
def execRes3B (s : State) : Out := resReg .b3 .b s

/-- `RES 3,C` (R242). -/
def execRes3C (s : State) : Out := resReg .b3 .c s

/-- `RES 3,D` (R242). -/
def execRes3D (s : State) : Out := resReg .b3 .d s

/-- `RES 3,E` (R242). -/
def execRes3E (s : State) : Out := resReg .b3 .e s

/-- `RES 3,H` (R242). -/
def execRes3H (s : State) : Out := resReg .b3 .h s

/-- `RES 3,L` (R242). -/
def execRes3L (s : State) : Out := resReg .b3 .l s

/-- `RES 3,(HL)` (R243). -/
def execRes3MemHl (s : State) : Out := resHl .b3 s

/-- `RES 3,A` (R242). -/
def execRes3A (s : State) : Out := resReg .b3 .a s

/-- `RES 4,B` (R242). -/
def execRes4B (s : State) : Out := resReg .b4 .b s

/-- `RES 4,C` (R242). -/
def execRes4C (s : State) : Out := resReg .b4 .c s

/-- `RES 4,D` (R242). -/
def execRes4D (s : State) : Out := resReg .b4 .d s

/-- `RES 4,E` (R242). -/
def execRes4E (s : State) : Out := resReg .b4 .e s

/-- `RES 4,H` (R242). -/
def execRes4H (s : State) : Out := resReg .b4 .h s

/-- `RES 4,L` (R242). -/
def execRes4L (s : State) : Out := resReg .b4 .l s

/-- `RES 4,(HL)` (R243). -/
def execRes4MemHl (s : State) : Out := resHl .b4 s

/-- `RES 4,A` (R242). -/
def execRes4A (s : State) : Out := resReg .b4 .a s

/-- `RES 5,B` (R242). -/
def execRes5B (s : State) : Out := resReg .b5 .b s

/-- `RES 5,C` (R242). -/
def execRes5C (s : State) : Out := resReg .b5 .c s

/-- `RES 5,D` (R242). -/
def execRes5D (s : State) : Out := resReg .b5 .d s

/-- `RES 5,E` (R242). -/
def execRes5E (s : State) : Out := resReg .b5 .e s

/-- `RES 5,H` (R242). -/
def execRes5H (s : State) : Out := resReg .b5 .h s

/-- `RES 5,L` (R242). -/
def execRes5L (s : State) : Out := resReg .b5 .l s

/-- `RES 5,(HL)` (R243). -/
def execRes5MemHl (s : State) : Out := resHl .b5 s

/-- `RES 5,A` (R242). -/
def execRes5A (s : State) : Out := resReg .b5 .a s

/-- `RES 6,B` (R242). -/
def execRes6B (s : State) : Out := resReg .b6 .b s

/-- `RES 6,C` (R242). -/
def execRes6C (s : State) : Out := resReg .b6 .c s

/-- `RES 6,D` (R242). -/
def execRes6D (s : State) : Out := resReg .b6 .d s

/-- `RES 6,E` (R242). -/
def execRes6E (s : State) : Out := resReg .b6 .e s

/-- `RES 6,H` (R242). -/
def execRes6H (s : State) : Out := resReg .b6 .h s

/-- `RES 6,L` (R242). -/
def execRes6L (s : State) : Out := resReg .b6 .l s

/-- `RES 6,(HL)` (R243). -/
def execRes6MemHl (s : State) : Out := resHl .b6 s

/-- `RES 6,A` (R242). -/
def execRes6A (s : State) : Out := resReg .b6 .a s

/-- `RES 7,B` (R242). -/
def execRes7B (s : State) : Out := resReg .b7 .b s

/-- `RES 7,C` (R242). -/
def execRes7C (s : State) : Out := resReg .b7 .c s

/-- `RES 7,D` (R242). -/
def execRes7D (s : State) : Out := resReg .b7 .d s

/-- `RES 7,E` (R242). -/
def execRes7E (s : State) : Out := resReg .b7 .e s

/-- `RES 7,H` (R242). -/
def execRes7H (s : State) : Out := resReg .b7 .h s

/-- `RES 7,L` (R242). -/
def execRes7L (s : State) : Out := resReg .b7 .l s

/-- `RES 7,(HL)` (R243). -/
def execRes7MemHl (s : State) : Out := resHl .b7 s

/-- `RES 7,A` (R242). -/
def execRes7A (s : State) : Out := resReg .b7 .a s

/-- `SET 0,B` (R244). -/
def execSet0B (s : State) : Out := setReg .b0 .b s

/-- `SET 0,C` (R244). -/
def execSet0C (s : State) : Out := setReg .b0 .c s

/-- `SET 0,D` (R244). -/
def execSet0D (s : State) : Out := setReg .b0 .d s

/-- `SET 0,E` (R244). -/
def execSet0E (s : State) : Out := setReg .b0 .e s

/-- `SET 0,H` (R244). -/
def execSet0H (s : State) : Out := setReg .b0 .h s

/-- `SET 0,L` (R244). -/
def execSet0L (s : State) : Out := setReg .b0 .l s

/-- `SET 0,(HL)` (R245). -/
def execSet0MemHl (s : State) : Out := setHl .b0 s

/-- `SET 0,A` (R244). -/
def execSet0A (s : State) : Out := setReg .b0 .a s

/-- `SET 1,B` (R244). -/
def execSet1B (s : State) : Out := setReg .b1 .b s

/-- `SET 1,C` (R244). -/
def execSet1C (s : State) : Out := setReg .b1 .c s

/-- `SET 1,D` (R244). -/
def execSet1D (s : State) : Out := setReg .b1 .d s

/-- `SET 1,E` (R244). -/
def execSet1E (s : State) : Out := setReg .b1 .e s

/-- `SET 1,H` (R244). -/
def execSet1H (s : State) : Out := setReg .b1 .h s

/-- `SET 1,L` (R244). -/
def execSet1L (s : State) : Out := setReg .b1 .l s

/-- `SET 1,(HL)` (R245). -/
def execSet1MemHl (s : State) : Out := setHl .b1 s

/-- `SET 1,A` (R244). -/
def execSet1A (s : State) : Out := setReg .b1 .a s

/-- `SET 2,B` (R244). -/
def execSet2B (s : State) : Out := setReg .b2 .b s

/-- `SET 2,C` (R244). -/
def execSet2C (s : State) : Out := setReg .b2 .c s

/-- `SET 2,D` (R244). -/
def execSet2D (s : State) : Out := setReg .b2 .d s

/-- `SET 2,E` (R244). -/
def execSet2E (s : State) : Out := setReg .b2 .e s

/-- `SET 2,H` (R244). -/
def execSet2H (s : State) : Out := setReg .b2 .h s

/-- `SET 2,L` (R244). -/
def execSet2L (s : State) : Out := setReg .b2 .l s

/-- `SET 2,(HL)` (R245). -/
def execSet2MemHl (s : State) : Out := setHl .b2 s

/-- `SET 2,A` (R244). -/
def execSet2A (s : State) : Out := setReg .b2 .a s

/-- `SET 3,B` (R244). -/
def execSet3B (s : State) : Out := setReg .b3 .b s

/-- `SET 3,C` (R244). -/
def execSet3C (s : State) : Out := setReg .b3 .c s

/-- `SET 3,D` (R244). -/
def execSet3D (s : State) : Out := setReg .b3 .d s

/-- `SET 3,E` (R244). -/
def execSet3E (s : State) : Out := setReg .b3 .e s

/-- `SET 3,H` (R244). -/
def execSet3H (s : State) : Out := setReg .b3 .h s

/-- `SET 3,L` (R244). -/
def execSet3L (s : State) : Out := setReg .b3 .l s

/-- `SET 3,(HL)` (R245). -/
def execSet3MemHl (s : State) : Out := setHl .b3 s

/-- `SET 3,A` (R244). -/
def execSet3A (s : State) : Out := setReg .b3 .a s

/-- `SET 4,B` (R244). -/
def execSet4B (s : State) : Out := setReg .b4 .b s

/-- `SET 4,C` (R244). -/
def execSet4C (s : State) : Out := setReg .b4 .c s

/-- `SET 4,D` (R244). -/
def execSet4D (s : State) : Out := setReg .b4 .d s

/-- `SET 4,E` (R244). -/
def execSet4E (s : State) : Out := setReg .b4 .e s

/-- `SET 4,H` (R244). -/
def execSet4H (s : State) : Out := setReg .b4 .h s

/-- `SET 4,L` (R244). -/
def execSet4L (s : State) : Out := setReg .b4 .l s

/-- `SET 4,(HL)` (R245). -/
def execSet4MemHl (s : State) : Out := setHl .b4 s

/-- `SET 4,A` (R244). -/
def execSet4A (s : State) : Out := setReg .b4 .a s

/-- `SET 5,B` (R244). -/
def execSet5B (s : State) : Out := setReg .b5 .b s

/-- `SET 5,C` (R244). -/
def execSet5C (s : State) : Out := setReg .b5 .c s

/-- `SET 5,D` (R244). -/
def execSet5D (s : State) : Out := setReg .b5 .d s

/-- `SET 5,E` (R244). -/
def execSet5E (s : State) : Out := setReg .b5 .e s

/-- `SET 5,H` (R244). -/
def execSet5H (s : State) : Out := setReg .b5 .h s

/-- `SET 5,L` (R244). -/
def execSet5L (s : State) : Out := setReg .b5 .l s

/-- `SET 5,(HL)` (R245). -/
def execSet5MemHl (s : State) : Out := setHl .b5 s

/-- `SET 5,A` (R244). -/
def execSet5A (s : State) : Out := setReg .b5 .a s

/-- `SET 6,B` (R244). -/
def execSet6B (s : State) : Out := setReg .b6 .b s

/-- `SET 6,C` (R244). -/
def execSet6C (s : State) : Out := setReg .b6 .c s

/-- `SET 6,D` (R244). -/
def execSet6D (s : State) : Out := setReg .b6 .d s

/-- `SET 6,E` (R244). -/
def execSet6E (s : State) : Out := setReg .b6 .e s

/-- `SET 6,H` (R244). -/
def execSet6H (s : State) : Out := setReg .b6 .h s

/-- `SET 6,L` (R244). -/
def execSet6L (s : State) : Out := setReg .b6 .l s

/-- `SET 6,(HL)` (R245). -/
def execSet6MemHl (s : State) : Out := setHl .b6 s

/-- `SET 6,A` (R244). -/
def execSet6A (s : State) : Out := setReg .b6 .a s

/-- `SET 7,B` (R244). -/
def execSet7B (s : State) : Out := setReg .b7 .b s

/-- `SET 7,C` (R244). -/
def execSet7C (s : State) : Out := setReg .b7 .c s

/-- `SET 7,D` (R244). -/
def execSet7D (s : State) : Out := setReg .b7 .d s

/-- `SET 7,E` (R244). -/
def execSet7E (s : State) : Out := setReg .b7 .e s

/-- `SET 7,H` (R244). -/
def execSet7H (s : State) : Out := setReg .b7 .h s

/-- `SET 7,L` (R244). -/
def execSet7L (s : State) : Out := setReg .b7 .l s

/-- `SET 7,(HL)` (R245). -/
def execSet7MemHl (s : State) : Out := setHl .b7 s

/-- `SET 7,A` (R244). -/
def execSet7A (s : State) : Out := setReg .b7 .a s

end Sys2Proof.Machine
end

