-- ==== Sys2Proof/Machine/Control.lean ====
section
/-! DEFINITION. Control transfer (44_control.md). PC is already past the instruction's bytes; a conditional instruction has
fetched all of them, taken or not, and costs more when taken (R250). There is no trap to return from: RETI restores PC
from the stack and sets IME (60_exceptions.md R289). -/

namespace Sys2Proof.Machine

/-! ### The shared operations -/

/-- `PC <- a16` (R251). -/
def jumpAbs (a : Word) (s : State) : Out := finish 4 (s.setPc a)

/-- `JP cc,a16` (R252). -/
def jumpCond (cc : Cond) (a : Word) (s : State) : Out :=
  if s.holds cc then finish 4 (s.setPc a) else finish 3 s

/-- `PC <- HL` (R253). -/
def jumpHl (s : State) : Out := finish 1 (s.setPc s.hl)

/-- `PC <- PC + e8` modulo 65536 (R254). -/
def jumpRel (e : Byte) (s : State) : Out := finish 3 (s.setPc (s.regs.pc + sext8 e))

/-- `JR cc,e8` (R255). -/
def jumpRelCond (cc : Cond) (e : Byte) (s : State) : Out :=
  if s.holds cc then finish 3 (s.setPc (s.regs.pc + sext8 e)) else finish 2 s

/-- `push16(PC); PC <- target`, the common part of CALL and RST. -/
def State.enterSubroutine (s : State) (target : Word) : State := (s.push16 s.regs.pc).setPc target

/-- `PC <- pop16()`, the common part of RET and RETI. -/
def State.leaveSubroutine (s : State) : State := s.afterPop16.setPc s.pop16

/-- `CALL a16` (R256). -/
def callAbs (a : Word) (s : State) : Out := finish 6 (s.enterSubroutine a)

/-- `CALL cc,a16` (R257). -/
def callCond (cc : Cond) (a : Word) (s : State) : Out :=
  if s.holds cc then finish 6 (s.enterSubroutine a) else finish 3 s

/-- `RET` (R258). -/
def returnFrom (s : State) : Out := finish 4 s.leaveSubroutine

/-- `RET cc` (R259). -/
def returnCond (cc : Cond) (s : State) : Out :=
  if s.holds cc then finish 5 s.leaveSubroutine else finish 2 s

/-- `RETI`: as RET, and IME set (R260). -/
def returnEnable (s : State) : Out := finish 4 { s.leaveSubroutine with regs.ime := true }

/-- `RST t` (R261). -/
def restart (t : Vec) (s : State) : Out := finish 4 (s.enterSubroutine (vecAddress t))

/-! ### The meanings, one per row of the table -/

/-- `JR e8` (R254). -/
def execJrE8 (e : Byte) (s : State) : Out := jumpRel e s

/-- `JR NZ,e8` (R255). -/
def execJrNzE8 (e : Byte) (s : State) : Out := jumpRelCond .nz e s

/-- `JR Z,e8` (R255). -/
def execJrZE8 (e : Byte) (s : State) : Out := jumpRelCond .z e s

/-- `JR NC,e8` (R255). -/
def execJrNcE8 (e : Byte) (s : State) : Out := jumpRelCond .nc e s

/-- `JR C,e8` (R255). -/
def execJrCE8 (e : Byte) (s : State) : Out := jumpRelCond .c e s

/-- `RET NZ` (R259). -/
def execRetNz (s : State) : Out := returnCond .nz s

/-- `JP NZ,a16` (R252). -/
def execJpNzA16 (a : Word) (s : State) : Out := jumpCond .nz a s

/-- `JP a16` (R251). -/
def execJpA16 (a : Word) (s : State) : Out := jumpAbs a s

/-- `CALL NZ,a16` (R257). -/
def execCallNzA16 (a : Word) (s : State) : Out := callCond .nz a s

/-- `RST 0x00` (R261). -/
def execRst00 (s : State) : Out := restart .v00 s

/-- `RET Z` (R259). -/
def execRetZ (s : State) : Out := returnCond .z s

/-- `RET` (R258). -/
def execRet (s : State) : Out := returnFrom s

/-- `JP Z,a16` (R252). -/
def execJpZA16 (a : Word) (s : State) : Out := jumpCond .z a s

/-- `CALL Z,a16` (R257). -/
def execCallZA16 (a : Word) (s : State) : Out := callCond .z a s

/-- `CALL a16` (R256). -/
def execCallA16 (a : Word) (s : State) : Out := callAbs a s

/-- `RST 0x08` (R261). -/
def execRst08 (s : State) : Out := restart .v08 s

/-- `RET NC` (R259). -/
def execRetNc (s : State) : Out := returnCond .nc s

/-- `JP NC,a16` (R252). -/
def execJpNcA16 (a : Word) (s : State) : Out := jumpCond .nc a s

/-- `CALL NC,a16` (R257). -/
def execCallNcA16 (a : Word) (s : State) : Out := callCond .nc a s

/-- `RST 0x10` (R261). -/
def execRst10 (s : State) : Out := restart .v10 s

/-- `RET C` (R259). -/
def execRetC (s : State) : Out := returnCond .c s

/-- `RETI` (R260). -/
def execReti (s : State) : Out := returnEnable s

/-- `JP C,a16` (R252). -/
def execJpCA16 (a : Word) (s : State) : Out := jumpCond .c a s

/-- `CALL C,a16` (R257). -/
def execCallCA16 (a : Word) (s : State) : Out := callCond .c a s

/-- `RST 0x18` (R261). -/
def execRst18 (s : State) : Out := restart .v18 s

/-- `RST 0x20` (R261). -/
def execRst20 (s : State) : Out := restart .v20 s

/-- `JP HL` (R253). -/
def execJpHl (s : State) : Out := jumpHl s

/-- `RST 0x28` (R261). -/
def execRst28 (s : State) : Out := restart .v28 s

/-- `RST 0x30` (R261). -/
def execRst30 (s : State) : Out := restart .v30 s

/-- `RST 0x38` (R261). -/
def execRst38 (s : State) : Out := restart .v38 s

end Sys2Proof.Machine
end

