-- ==== Sys2Proof/Machine/Loads.lean ====
section
/-! DEFINITION. Loads, stores and stack transfers (40_loads.md). No instruction here writes a flag, but POP AF, which
writes F. -/

namespace Sys2Proof.Machine

/-! ### The shared operations -/

/-- `R[ddd] <- R[sss]` (R140). -/
def loadReg (dst src : Reg8) (s : State) : Out := finish 1 (s.setReg dst (s.reg src))

/-- `R[ddd] <- d8` (R141). -/
def loadRegImm (dst : Reg8) (v : Byte) (s : State) : Out := finish 2 (s.setReg dst v)

/-- `R[ddd] <- MemRead(HL, 1)`, the address taken before the write (R142). -/
def loadRegHl (dst : Reg8) (s : State) : Out := finish 2 ((s.afterRead s.hl).setReg dst (s.peek s.hl))

/-- `MemWrite(HL, 1, R[sss])` (R143). -/
def storeHlReg (src : Reg8) (s : State) : Out := finish 2 (s.store s.hl (s.reg src))

/-- `MemWrite(HL, 1, d8)` (R144). -/
def storeHlImm (v : Byte) (s : State) : Out := finish 3 (s.store s.hl v)

/-- `A <- MemRead(a, 1)` at cost `n` (R145, R146, R149, R151, R153). -/
def loadA (n : Nat) (a : Word) (s : State) : Out := finish n ((s.afterRead a).setReg .a (s.peek a))

/-- `MemWrite(a, 1, A)` at cost `n` (R147, R148, R150, R152, R154). -/
def storeA (n : Nat) (a : Word) (s : State) : Out := finish n (s.store a s.regs.a)

/-- `MemWrite(HL, 1, A)`, then HL moved by `d` modulo 65536 (R155, R156). -/
def storeAStep (d : Word) (s : State) : Out := finish 2 ((s.store s.hl s.regs.a).setHl (s.hl + d))

/-- `A <- MemRead(HL, 1)`, then HL moved by `d` modulo 65536 (R157, R158). -/
def loadAStep (d : Word) (s : State) : Out :=
  finish 2 (((s.afterRead s.hl).setReg .a (s.peek s.hl)).setHl (s.hl + d))

/-- `RP[rr] <- d16` (R159). -/
def loadPairImm (p : Pair) (w : Word) (s : State) : Out := finish 3 (s.setPair p w)

/-- SP stored at `a`, low byte first, the second address wrapping (R160). -/
def storeSp (a : Word) (s : State) : Out := finish 5 (s.storeWord a s.regs.sp)

/-- `SP <- HL` (R161). -/
def loadSpHl (s : State) : Out := finish 2 (s.setSp s.hl)

/-- `push16(RP[qq])` (R162). -/
def pushPair (p : StackPair) (s : State) : Out := finish 4 (s.push16 (s.stackPair p))

/-- `RP[qq] <- pop16()` (R163, R164). -/
def popPair (p : StackPair) (s : State) : Out := finish 3 (s.afterPop16.setStackPair p s.pop16)

/-! ### The meanings, one per row of the table -/

/-- `LD BC,d16` (R159). -/
def execLdBcD16 (w : Word) (s : State) : Out := loadPairImm .bc w s

/-- `LD (BC),A` (R147). -/
def execLdMemBcA (s : State) : Out := storeA 2 s.bc s

/-- `LD B,d8` (R141). -/
def execLdBD8 (v : Byte) (s : State) : Out := loadRegImm .b v s

/-- `LD (a16),SP` (R160). -/
def execLdMemA16Sp (a : Word) (s : State) : Out := storeSp a s

/-- `LD A,(BC)` (R145). -/
def execLdAMemBc (s : State) : Out := loadA 2 s.bc s

/-- `LD C,d8` (R141). -/
def execLdCD8 (v : Byte) (s : State) : Out := loadRegImm .c v s

/-- `LD DE,d16` (R159). -/
def execLdDeD16 (w : Word) (s : State) : Out := loadPairImm .de w s

/-- `LD (DE),A` (R148). -/
def execLdMemDeA (s : State) : Out := storeA 2 s.de s

/-- `LD D,d8` (R141). -/
def execLdDD8 (v : Byte) (s : State) : Out := loadRegImm .d v s

/-- `LD A,(DE)` (R146). -/
def execLdAMemDe (s : State) : Out := loadA 2 s.de s

/-- `LD E,d8` (R141). -/
def execLdED8 (v : Byte) (s : State) : Out := loadRegImm .e v s

/-- `LD HL,d16` (R159). -/
def execLdHlD16 (w : Word) (s : State) : Out := loadPairImm .hl w s

/-- `LD (HL+),A` (R155). -/
def execLdMemHlIncA (s : State) : Out := storeAStep 1 s

/-- `LD H,d8` (R141). -/
def execLdHD8 (v : Byte) (s : State) : Out := loadRegImm .h v s

/-- `LD A,(HL+)` (R157). -/
def execLdAMemHlInc (s : State) : Out := loadAStep 1 s

/-- `LD L,d8` (R141). -/
def execLdLD8 (v : Byte) (s : State) : Out := loadRegImm .l v s

/-- `LD SP,d16` (R159). -/
def execLdSpD16 (w : Word) (s : State) : Out := loadPairImm .sp w s

/-- `LD (HL-),A` (R156). -/
def execLdMemHlDecA (s : State) : Out := storeAStep (-1) s

/-- `LD (HL),d8` (R144). -/
def execLdMemHlD8 (v : Byte) (s : State) : Out := storeHlImm v s

/-- `LD A,(HL-)` (R158). -/
def execLdAMemHlDec (s : State) : Out := loadAStep (-1) s

/-- `LD A,d8` (R141). -/
def execLdAD8 (v : Byte) (s : State) : Out := loadRegImm .a v s

/-- `LD B,B` (R140). -/
def execLdBB (s : State) : Out := loadReg .b .b s

/-- `LD B,C` (R140). -/
def execLdBC (s : State) : Out := loadReg .b .c s

/-- `LD B,D` (R140). -/
def execLdBD (s : State) : Out := loadReg .b .d s

/-- `LD B,E` (R140). -/
def execLdBE (s : State) : Out := loadReg .b .e s

/-- `LD B,H` (R140). -/
def execLdBH (s : State) : Out := loadReg .b .h s

/-- `LD B,L` (R140). -/
def execLdBL (s : State) : Out := loadReg .b .l s

/-- `LD B,(HL)` (R142). -/
def execLdBMemHl (s : State) : Out := loadRegHl .b s

/-- `LD B,A` (R140). -/
def execLdBA (s : State) : Out := loadReg .b .a s

/-- `LD C,B` (R140). -/
def execLdCB (s : State) : Out := loadReg .c .b s

/-- `LD C,C` (R140). -/
def execLdCC (s : State) : Out := loadReg .c .c s

/-- `LD C,D` (R140). -/
def execLdCD (s : State) : Out := loadReg .c .d s

/-- `LD C,E` (R140). -/
def execLdCE (s : State) : Out := loadReg .c .e s

/-- `LD C,H` (R140). -/
def execLdCH (s : State) : Out := loadReg .c .h s

/-- `LD C,L` (R140). -/
def execLdCL (s : State) : Out := loadReg .c .l s

/-- `LD C,(HL)` (R142). -/
def execLdCMemHl (s : State) : Out := loadRegHl .c s

/-- `LD C,A` (R140). -/
def execLdCA (s : State) : Out := loadReg .c .a s

/-- `LD D,B` (R140). -/
def execLdDB (s : State) : Out := loadReg .d .b s

/-- `LD D,C` (R140). -/
def execLdDC (s : State) : Out := loadReg .d .c s

/-- `LD D,D` (R140). -/
def execLdDD (s : State) : Out := loadReg .d .d s

/-- `LD D,E` (R140). -/
def execLdDE (s : State) : Out := loadReg .d .e s

/-- `LD D,H` (R140). -/
def execLdDH (s : State) : Out := loadReg .d .h s

/-- `LD D,L` (R140). -/
def execLdDL (s : State) : Out := loadReg .d .l s

/-- `LD D,(HL)` (R142). -/
def execLdDMemHl (s : State) : Out := loadRegHl .d s

/-- `LD D,A` (R140). -/
def execLdDA (s : State) : Out := loadReg .d .a s

/-- `LD E,B` (R140). -/
def execLdEB (s : State) : Out := loadReg .e .b s

/-- `LD E,C` (R140). -/
def execLdEC (s : State) : Out := loadReg .e .c s

/-- `LD E,D` (R140). -/
def execLdED (s : State) : Out := loadReg .e .d s

/-- `LD E,E` (R140). -/
def execLdEE (s : State) : Out := loadReg .e .e s

/-- `LD E,H` (R140). -/
def execLdEH (s : State) : Out := loadReg .e .h s

/-- `LD E,L` (R140). -/
def execLdEL (s : State) : Out := loadReg .e .l s

/-- `LD E,(HL)` (R142). -/
def execLdEMemHl (s : State) : Out := loadRegHl .e s

/-- `LD E,A` (R140). -/
def execLdEA (s : State) : Out := loadReg .e .a s

/-- `LD H,B` (R140). -/
def execLdHB (s : State) : Out := loadReg .h .b s

/-- `LD H,C` (R140). -/
def execLdHC (s : State) : Out := loadReg .h .c s

/-- `LD H,D` (R140). -/
def execLdHD (s : State) : Out := loadReg .h .d s

/-- `LD H,E` (R140). -/
def execLdHE (s : State) : Out := loadReg .h .e s

/-- `LD H,H` (R140). -/
def execLdHH (s : State) : Out := loadReg .h .h s

/-- `LD H,L` (R140). -/
def execLdHL (s : State) : Out := loadReg .h .l s

/-- `LD H,(HL)` (R142). -/
def execLdHMemHl (s : State) : Out := loadRegHl .h s

/-- `LD H,A` (R140). -/
def execLdHA (s : State) : Out := loadReg .h .a s

/-- `LD L,B` (R140). -/
def execLdLB (s : State) : Out := loadReg .l .b s

/-- `LD L,C` (R140). -/
def execLdLC (s : State) : Out := loadReg .l .c s

/-- `LD L,D` (R140). -/
def execLdLD (s : State) : Out := loadReg .l .d s

/-- `LD L,E` (R140). -/
def execLdLE (s : State) : Out := loadReg .l .e s

/-- `LD L,H` (R140). -/
def execLdLH (s : State) : Out := loadReg .l .h s

/-- `LD L,L` (R140). -/
def execLdLL (s : State) : Out := loadReg .l .l s

/-- `LD L,(HL)` (R142). -/
def execLdLMemHl (s : State) : Out := loadRegHl .l s

/-- `LD L,A` (R140). -/
def execLdLA (s : State) : Out := loadReg .l .a s

/-- `LD (HL),B` (R143). -/
def execLdMemHlB (s : State) : Out := storeHlReg .b s

/-- `LD (HL),C` (R143). -/
def execLdMemHlC (s : State) : Out := storeHlReg .c s

/-- `LD (HL),D` (R143). -/
def execLdMemHlD (s : State) : Out := storeHlReg .d s

/-- `LD (HL),E` (R143). -/
def execLdMemHlE (s : State) : Out := storeHlReg .e s

/-- `LD (HL),H` (R143). -/
def execLdMemHlH (s : State) : Out := storeHlReg .h s

/-- `LD (HL),L` (R143). -/
def execLdMemHlL (s : State) : Out := storeHlReg .l s

/-- `LD (HL),A` (R143). -/
def execLdMemHlA (s : State) : Out := storeHlReg .a s

/-- `LD A,B` (R140). -/
def execLdAB (s : State) : Out := loadReg .a .b s

/-- `LD A,C` (R140). -/
def execLdAC (s : State) : Out := loadReg .a .c s

/-- `LD A,D` (R140). -/
def execLdAD (s : State) : Out := loadReg .a .d s

/-- `LD A,E` (R140). -/
def execLdAE (s : State) : Out := loadReg .a .e s

/-- `LD A,H` (R140). -/
def execLdAH (s : State) : Out := loadReg .a .h s

/-- `LD A,L` (R140). -/
def execLdAL (s : State) : Out := loadReg .a .l s

/-- `LD A,(HL)` (R142). -/
def execLdAMemHl (s : State) : Out := loadRegHl .a s

/-- `LD A,A` (R140). -/
def execLdAA (s : State) : Out := loadReg .a .a s

/-- `POP BC` (R163). -/
def execPopBc (s : State) : Out := popPair .bc s

/-- `PUSH BC` (R162). -/
def execPushBc (s : State) : Out := pushPair .bc s

/-- `POP DE` (R163). -/
def execPopDe (s : State) : Out := popPair .de s

/-- `PUSH DE` (R162). -/
def execPushDe (s : State) : Out := pushPair .de s

/-- `LDH (a8),A` (R152). -/
def execLdhMemA8A (n : Byte) (s : State) : Out := storeA 3 (highPage n) s

/-- `POP HL` (R163). -/
def execPopHl (s : State) : Out := popPair .hl s

/-- `LD (C),A` (R154). -/
def execLdMemCA (s : State) : Out := storeA 2 (highPage s.regs.c) s

/-- `PUSH HL` (R162). -/
def execPushHl (s : State) : Out := pushPair .hl s

/-- `LD (a16),A` (R150). -/
def execLdMemA16A (a : Word) (s : State) : Out := storeA 4 a s

/-- `LDH A,(a8)` (R151). -/
def execLdhAMemA8 (n : Byte) (s : State) : Out := loadA 3 (highPage n) s

/-- `POP AF` (R164). -/
def execPopAf (s : State) : Out := popPair .af s

/-- `LD A,(C)` (R153). -/
def execLdAMemC (s : State) : Out := loadA 2 (highPage s.regs.c) s

/-- `PUSH AF` (R162). -/
def execPushAf (s : State) : Out := pushPair .af s

/-- `LD SP,HL` (R161). -/
def execLdSpHl (s : State) : Out := loadSpHl s

/-- `LD A,(a16)` (R149). -/
def execLdAMemA16 (a : Word) (s : State) : Out := loadA 4 a s

end Sys2Proof.Machine
end

