-- ==== Sys2Proof/Machine/System.lean ====
section
/-! DEFINITION. Miscellaneous and system instructions (45_system.md), and the opcode values with no table entry
(30_encoding.md R124, 60_exceptions.md R281). -/

namespace Sys2Proof.Machine

/-! ### The shared operations -/

/-- NOP (R270). -/
def noOperation (s : State) : Out := finish 1 s

/-- STOP, which is as HALT; its second byte `x`, fetched already, is ignored (R272). -/
def stopEngine (_x : Byte) (s : State) : Out := haltEngine s

/-- DI and EI: IME written at once (R273, R274). -/
def setIme (b : Bool) (s : State) : Out := finish 1 { s with regs.ime := b }

/-! ### The meanings, one per row of the table -/

/-- `NOP` (R270). -/
def execNop (s : State) : Out := noOperation s

/-- `STOP` (R272). -/
def execStop (x : Byte) (s : State) : Out := stopEngine x s

/-- `HALT` (R271). -/
def execHalt (s : State) : Out := haltEngine s

/-- `unimplemented 0xD3` (R124). -/
def execUnimplementedD3 (s : State) : Out := raiseUnimplemented s

/-- `unimplemented 0xDB` (R124). -/
def execUnimplementedDB (s : State) : Out := raiseUnimplemented s

/-- `unimplemented 0xDD` (R124). -/
def execUnimplementedDD (s : State) : Out := raiseUnimplemented s

/-- `unimplemented 0xE3` (R124). -/
def execUnimplementedE3 (s : State) : Out := raiseUnimplemented s

/-- `unimplemented 0xE4` (R124). -/
def execUnimplementedE4 (s : State) : Out := raiseUnimplemented s

/-- `unimplemented 0xEB` (R124). -/
def execUnimplementedEB (s : State) : Out := raiseUnimplemented s

/-- `unimplemented 0xEC` (R124). -/
def execUnimplementedEC (s : State) : Out := raiseUnimplemented s

/-- `unimplemented 0xED` (R124). -/
def execUnimplementedED (s : State) : Out := raiseUnimplemented s

/-- `DI` (R273). -/
def execDi (s : State) : Out := setIme false s

/-- `unimplemented 0xF4` (R124). -/
def execUnimplementedF4 (s : State) : Out := raiseUnimplemented s

/-- `EI` (R274). -/
def execEi (s : State) : Out := setIme true s

/-- `unimplemented 0xFC` (R124). -/
def execUnimplementedFC (s : State) : Out := raiseUnimplemented s

/-- `unimplemented 0xFD` (R124). -/
def execUnimplementedFD (s : State) : Out := raiseUnimplemented s

end Sys2Proof.Machine
end

