-- ==== Sys2Proof/Machine/Graphics.lean ====
section
/-! DEFINITION. The graphics timing state machine (60_exceptions.md R300 to R314): modes, transitions, the background
rasterizer, the advance operation, the status synchronization and the frame-buffer accessor. -/

namespace Sys2Proof.Machine

/-- The number of a mode in STAT bits 1:0 (R302). -/
def modeNumber : Mode → Byte
  | .hblank => 0
  | .vblank => 1
  | .oamScan => 2
  | .pixelTransfer => 3

/-- `TH(mode)` (R303). -/
def threshold : Mode → Nat
  | .oamScan => 80
  | .pixelTransfer => 172
  | .hblank => 204
  | .vblank => 456

/-- `MAP_BASE` (R309). -/
def mapBase : Nat := 0x9800

/-- `TILE_BASE` (R310). -/
def tileBase : Nat := 0x8000

/-- The shade the palette register gives a colour index: bits `2ci+1 : 2ci` of BGP (10_state.md R46, R311). -/
def paletteShade (bgp : Byte) (ci : Nat) : Shade := (bgp >>> (2 * ci)).setWidth 2

/-- The shade number of column `x` of line `y` (R308), from SCY, SCX, BGP and the tile map and data read through the
address space. -/
def pixelShade (s : State) (y x : Nat) : Shade :=
  let scy := s.display.scy.toNat
  let scx := s.display.scx.toNat
  let row := (y + scy) / 8 % 32
  let col := (x + scx) / 8 % 32
  let idx := (s.peek (BitVec.ofNat 16 (mapBase + 32 * row + col))).toNat
  let ta := tileBase + 16 * idx + 2 * ((y + scy) % 8)
  let lo := s.peek (BitVec.ofNat 16 ta)
  let hi := s.peek (BitVec.ofNat 16 (ta + 1))
  let b := 7 - (x + scx) % 8
  let ci := 2 * (hi.getLsbD b).toNat + (lo.getLsbD b).toNat
  paletteShade s.display.bgp ci

/-- The key of cell (y, x) of the frame buffer (log entry 9). -/
def fbKey (y x : Nat) : Nat := 160 * y + x

/-- The first `n` columns of line `y` written into the frame buffer, each from the state `s`. -/
def rasterizeRow (s : State) (y : Nat) : Nat → Cells 2
  | 0 => s.display.fb
  | n + 1 => Memory.set (rasterizeRow s y n) (fbKey y n) (pixelShade s y n)

/-- `rasterize(LY)` (R307, R308): the 160 columns of the current line. -/
def rasterize (s : State) : State :=
  { s with display.fb := rasterizeRow s s.display.ly.toNat 160 }

/-- `hblankEnd()` (R305). -/
def hblankEnd (s : State) : State :=
  let ly := s.display.ly + 1
  { s with display.ly := ly, display.mode := if ly = 144 then .vblank else .oamScan }

/-- `vblankLine()` (R306). -/
def vblankLine (s : State) : State :=
  if s.display.ly = 153 then
    { s with display.ly := 0, display.mode := .oamScan, display.frameCount := s.display.frameCount + 1 }
  else { s with display.ly := s.display.ly + 1 }

/-- The mode clock written. -/
def setModeClock (s : State) (n : Nat) : State := { s with display.modeClock := n }

/-- The display mode written. -/
def setMode (s : State) (m : Mode) : State := { s with display.mode := m }

/-- One transition (the body of the loop of R304). -/
def transition (s : State) : State :=
  let s1 := setModeClock s (s.display.modeClock - threshold s.display.mode)
  match s.display.mode with
  | .oamScan => setMode s1 .pixelTransfer
  | .pixelTransfer => setMode (rasterize s1) .hblank
  | .hblank => hblankEnd s1
  | .vblank => vblankLine s1

/-- `transitions()` (R304): the loop, run while the mode clock is at or above the mode's threshold. Each round takes at
least 80 units off the clock, so the clock itself is fuel enough (log entry 10). -/
def transitions : Nat → State → State
  | 0, s => s
  | fuel + 1, s =>
    if threshold s.display.mode ≤ s.display.modeClock then transitions fuel (transition s) else s

/-- The value `syncStatus()` gives STAT (R313). -/
def syncedStat (d : Display) : Byte :=
  (d.stat &&& 0xF8) ||| (if d.ly = d.lyc then 0x04 else 0) ||| modeNumber d.mode

/-- `syncStatus()` (R313). -/
def syncStatus (s : State) : State := { s with display.stat := syncedStat s.display }

/-- `advance(n)` (R312). -/
def advance (n : Nat) (s : State) : State :=
  let s1 := setModeClock s (s.display.modeClock + n)
  syncStatus (transitions s1.display.modeClock s1)

/-- What `frameBuffer()` returns: the 144 rows of 160 colours, and the frame count (R314). -/
structure Frame where
  /-- The rows, top first, each of 160 colours, left first. -/
  rows : List (List Colour)
  /-- The frame count. -/
  frameCount : Nat
deriving DecidableEq, Repr

/-- `FB[y][x]`, the resolved colour of a cell (10_state.md R49, R311). -/
def State.pixel (s : State) (y x : Nat) : Colour := Config.shade (Memory.get s.display.fb (fbKey y x))

/-- `frameBuffer()` (R314). -/
def State.frameBuffer (s : State) : Frame where
  rows := (List.range 144).map fun y => (List.range 160).map fun x => s.pixel y x
  frameCount := s.display.frameCount

end Sys2Proof.Machine
end

