-- ==== Sys2Proof/Machine/Engine.lean ====
section
/-! DEFINITION. The engine step (30_encoding.md R120, R121), fetching an instruction's bytes (00_scope.md R14), the
orchestrator's part of a step (60_exceptions.md R315), and placing an instruction where the engine fetches next. -/

namespace Sys2Proof.Machine

/-- The state after `fetch8()` (R14): the byte at PC read, PC incremented modulo 65536. -/
def State.afterFetch8 (s : State) : State := (s.afterRead s.regs.pc).setPc (s.regs.pc + 1)

/-- The next `n` bytes that `fetch8()` returns. -/
def State.fetched : Nat → State → List Byte
  | 0, _ => []
  | n + 1, s => s.peek s.regs.pc :: State.fetched n s.afterFetch8

/-- The state after `n` calls of `fetch8()`. -/
def State.afterFetch : Nat → State → State
  | 0, s => s
  | n + 1, s => State.afterFetch n s.afterFetch8

/-- The length of the instruction at PC, from its first byte (R122). -/
def State.nextLength (s : State) : Nat := instrLength (s.peek s.regs.pc)

/-- The bytes of the instruction at PC, exactly as many as it has (R122, D40). -/
def State.nextBytes (s : State) : List Byte := s.fetched s.nextLength

/-- The instruction at PC. -/
def State.nextInstr (s : State) : Instr :=
  decodeParts (s.nextBytes.getD 0 0) (s.nextBytes.getD 1 0) (s.nextBytes.getD 2 0)

/-- The state in which the instruction at PC executes: all of its bytes fetched (10_state.md R27). -/
def State.fetchedState (s : State) : State := s.afterFetch s.nextLength

/-- The engine step (R120): a halted engine fetches nothing, changes nothing and returns `Halted` (R121); else the
instruction at PC is fetched, decoded and executed. A step after `UnimplementedOpcode` fetches from the PC that the
failed opcode left (60_exceptions.md R281). -/
def engineStep (s : State) : Out :=
  if s.regs.halted then .next { s with outcome := some .halted }
  else exec s.nextInstr s.fetchedState

/-- What the orchestrator does after an engine step (R315): on `Cycles(n)` the graphics timer is advanced by `n`; on
`Halted` and `UnimplementedOpcode` it is not (R316). -/
def afterStep (s : State) : State :=
  match s.outcome with
  | some (.cycles n) => advance n s
  | _ => s

/-! ### Placing an instruction -/

/-- The address is backed by a byte that can be placed: cartridge bytes of the image, or storage. -/
def State.backed (s : State) (addr : Word) : Bool :=
  match regionOf addr with
  | .romFixed => decide (addr.toNat < s.bus.cartLen)
  | .romBanked => decide (s.bus.romOffset addr < s.bus.cartLen)
  | .eram => s.bus.eramReachable
  | .unmapped => false
  | .io => false
  | _ => true

/-- The byte behind an address placed from outside the machine: into the cartridge image below 0x8000, else into the
storage of the address. -/
def State.place (s : State) (addr : Word) (v : Byte) : State :=
  match regionOf addr with
  | .romFixed => { s with bus.cart := Memory.set s.bus.cart addr.toNat v }
  | .romBanked => { s with bus.cart := Memory.set s.bus.cart (s.bus.romOffset addr) v }
  | _ => s.store addr v

/-- Bytes placed at an address and those after it. -/
def State.placeBytes (s : State) (addr : Word) : List Byte → State
  | [] => s
  | v :: vs => State.placeBytes (s.place addr v) (addr + 1) vs

/-- The state made ready to fetch: not halted, and PC where three bytes can be placed (PC itself, or working RAM where
no byte stands behind PC). -/
def State.readyToFetch (s : State) : State :=
  let pc := s.regs.pc
  let ok := s.backed pc && s.backed (pc + 1) && s.backed (pc + 2)
  { s with regs.halted := false, regs.pc := if ok then pc else 0xC000 }

/-- An instruction's bytes placed where the engine fetches its next instruction (log entry 5). -/
def State.placeInstr (s : State) (bytes : List Byte) : State :=
  let t := s.readyToFetch
  t.placeBytes t.regs.pc bytes

end Sys2Proof.Machine
end

