-- ==== Sys2Proof/Machine/Step.lean ====
section
/-! DEFINITION. One step of the machine: one round of the orchestrator's loop (60_exceptions.md R315). -/

namespace Sys2Proof.Machine

/-- One engine step, then the graphics timer's advance by its cost (R315, 70_reset_and_hazards.md R340; log
entry 2). -/
def step (s : State) : Host.Outcome State Fault Refusal :=
  match engineStep s with
  | .next t => .next (afterStep t)
  | .fault r => .fault r
  | .refused r => .refused r

/-- `s` with an instruction, its bits numbered as spec/opcode_table.json numbers them, where `step` fetches its next
instruction (log entries 5 and 6). -/
def State.withFetchWord (s : State) (nbits w : Nat) : State := s.placeInstr (tableBytes nbits w)

end Sys2Proof.Machine
end

