-- ==== Sys2Proof/Machine/Construct.lean ====
section
/-! DEFINITION. Construction, the only reset (70_reset_and_hazards.md R330 to R334, 20_memory.md R73, R74): from the
cartridge image the host loads and the initial storage contents. -/

namespace Sys2Proof.Machine

/-- What the host's load gives `construct` (R330 steps 1 and 2): the image, or the host's failure to open it or to
allocate its buffer. -/
inductive HostLoad where
  /-- The image cannot be opened. -/
  | openFailed
  /-- The buffer cannot be allocated. -/
  | allocFailed
  /-- The image's bytes. -/
  | image (bytes : List Byte)

/-- The typed construction failures (20_memory.md R74). -/
inductive ConstructError where
  | cartOpenFailed
  | cartAllocFailed
  | cartTooShort
  | headerCodeOutOfRange
deriving DecidableEq, Repr

/-- `MEM_INIT` (00_scope.md R9, R334): the initial byte at each offset of each storage region, any values. -/
structure MemInit where
  /-- Video RAM. -/
  vram : Nat → Byte
  /-- Working RAM. -/
  wram : Nat → Byte
  /-- High RAM. -/
  hram : Nat → Byte
  /-- Object attribute memory. -/
  oam : Nat → Byte
  /-- External RAM. -/
  eram : Nat → Byte

/-- The ROM bank count of a size code, none outside the table (R73). -/
def romBanksOf (code : Byte) : Option Nat :=
  match code.toNat with
  | 0 => some 2
  | 1 => some 4
  | 2 => some 8
  | 3 => some 32
  | 4 => some 64
  | 5 => some 128
  | _ => none

/-- The RAM bank count of a size code, none outside the table (R73). -/
def ramBanksOf (code : Byte) : Option Nat :=
  match code.toNat with
  | 0 => some 0
  | 1 => some 1
  | 2 => some 1
  | 3 => some 4
  | 4 => some 16
  | 5 => some 8
  | _ => none

/-- The address space of a constructed block (10_state.md R50, R332). -/
def AddressSpace.construct (image : List Byte) (init : MemInit) (romBanks ramBanks : Nat) : AddressSpace where
  cart := Memory.ofFn image.length fun i => image.getD i 0
  cartLen := image.length
  romBankCount := romBanks
  ramBankCount := ramBanks
  ramEnabled := false
  bankingMode := false
  romBank := 1
  ramBank := 0
  vram := Memory.ofFn 0x2000 init.vram
  wram := Memory.ofFn 0x2000 init.wram
  hram := Memory.ofFn 127 init.hram
  oam := Memory.ofFn 160 init.oam
  eram := Memory.ofFn (ramBanks * 0x2000) init.eram
  ie := 0x00

/-- `construct(image)` (R330): the steps in order, stopping at the first failure; a failure leaves no block. -/
def construct (load : HostLoad) (init : MemInit) : Except ConstructError State :=
  match load with
  | .openFailed => .error .cartOpenFailed
  | .allocFailed => .error .cartAllocFailed
  | .image bytes =>
    if bytes.length < 0x014A then .error .cartTooShort
    else
      match romBanksOf (bytes.getD 0x0148 0), ramBanksOf (bytes.getD 0x0149 0) with
      | some rom, some ram =>
        .ok
          { regs := Regs.reset
            bus := AddressSpace.construct bytes init rom ram
            display := Display.reset
            ioHistory := []
            outcome := none }
      | _, _ => .error .headerCodeOutOfRange

end Sys2Proof.Machine
end

