-- ==== Sys2Proof/Machine/Orchestrator.lean ====
section
/-! DEFINITION. The orchestrator's run (60_exceptions.md R315, R316): rounds until `Halted` or `UnimplementedOpcode`, with
the frames handed to the presentation collaborator, bounded by fuel. -/

namespace Sys2Proof.Machine

/-- How a fuel-bounded run ends (R316). -/
inductive RunEnd where
  /-- The latest step returned `Halted`; its final state. -/
  | halted (s : State)
  /-- The latest step returned `UnimplementedOpcode`: the run ends refused; its final state. -/
  | unimplementedOpcode (s : State)
  /-- The fuel ran out after the state; it says nothing of the block. -/
  | outOfFuel (s : State)
  /-- A round faulted or was refused: this happens in no state (60_exceptions.md R283, R284). -/
  | stopped
deriving DecidableEq, Repr

/-- The frame a round hands to the presentation collaborator: the frame buffer if the frame count changed (R315). -/
def presented (before after : State) : List Frame :=
  if after.display.frameCount ≠ before.display.frameCount then [after.frameBuffer] else []

/-- `run()` bounded by `fuel` steps (R315, R316): how it ends, and the frames presented, first one first. -/
def run : Nat → State → RunEnd × List Frame
  | 0, s => (.outOfFuel s, [])
  | fuel + 1, s =>
    match step s with
    | .next t =>
      match t.outcome with
      | some .halted => (.halted t, [])
      | some .unimplementedOpcode => (.unimplementedOpcode t, [])
      | _ =>
        let r := run fuel t
        (r.1, presented s t ++ r.2)
    | .fault _ => (.stopped, [])
    | .refused _ => (.stopped, [])

end Sys2Proof.Machine
end

