-- ==== Sys2Proof/Safety.lean ====
section
/-! DEFINITION. The terms the claims use: the invariant of the machine, what a step may leave unchanged, and which reads
a store may change. -/

namespace Sys2Proof.Machine

/-! ### The invariant -/

/-- A store is canonical and fits its region. -/
def storeWf {w : Nat} (size : Nat) (m : Cells w) : Bool := Memory.wf m && Memory.below size m

/-- Every store of the machine is canonical and fits its region (10_state.md R31, R37, R49). -/
def State.memoryWf (s : State) : Bool :=
  storeWf s.bus.cartLen s.bus.cart && storeWf 0x2000 s.bus.vram && storeWf 0x2000 s.bus.wram &&
    storeWf 127 s.bus.hram && storeWf 160 s.bus.oam && storeWf (s.bus.ramBankCount * 0x2000) s.bus.eram &&
    storeWf (144 * 160) s.display.fb

/-- The low nibble of F is 0 (10_state.md R25). -/
def State.flagsWf (s : State) : Bool := s.regs.f &&& 0x0F == 0

/-- The bank counts are counts of the header tables (20_memory.md R73) and bits 4:0 of the ROM bank index are never all
zero (10_state.md R35). -/
def State.banksWf (s : State) : Bool :=
  [2, 4, 8, 32, 64, 128].contains s.bus.romBankCount && [0, 1, 4, 16, 8].contains s.bus.ramBankCount &&
    decide (s.bus.romBank &&& 0x1F ≠ 0)

/-- The display is where a step may leave it: the mode clock below the mode's threshold (10_state.md R48), LY a visible
line in the three visible modes and a line of 144 to 153 in vertical blank (60_exceptions.md R305 to R307), STAT
synchronized with bit 7 set (R313, 10_state.md R42). -/
def State.displayWf (s : State) : Bool :=
  decide (s.display.modeClock < threshold s.display.mode) &&
    (if s.display.mode = .vblank then decide (144 ≤ s.display.ly.toNat ∧ s.display.ly.toNat ≤ 153)
      else decide (s.display.ly.toNat < 144)) &&
    (s.display.stat == syncedStat s.display) && s.display.stat.getLsbD 7

/-- The invariant of the machine. -/
def State.Inv (s : State) : Bool := s.memoryWf && s.flagsWf && s.banksWf && s.displayWf

/-! ### What is kept -/

/-- Instruction `i` executed in `s` completes at a cost of `n` units, in a next state of which `Q` holds. -/
def Completes (i : Instr) (s : State) (n : Nat) (Q : State → Prop) : Prop :=
  ∃ t, exec i s = .next t ∧ t.outcome = some (.cycles n) ∧ Q t

/-- Every register of the field `r` but those listed is kept. -/
def RegsKeptBut (written : List Reg8) (s t : State) : Prop := ∀ r, r ∉ written → t.reg r = s.reg r

/-- IME and the halt latch are kept. -/
def LatchesKept (s t : State) : Prop := t.regs.ime = s.regs.ime ∧ t.regs.halted = s.regs.halted

/-- SP, PC, IME and the halt latch are kept. -/
def ControlKept (s t : State) : Prop := t.regs.sp = s.regs.sp ∧ t.regs.pc = s.regs.pc ∧ LatchesKept s t

/-- No memory access: the whole address space, the display and the history of outside peripherals are kept, and every
byte reads as before. -/
def MemoryKept (s t : State) : Prop :=
  t.bus = s.bus ∧ t.display = s.display ∧ t.ioHistory = s.ioHistory ∧ ∀ b, t.peek b = s.peek b

/-- The memory accesses of `s` to `t` are reads of these addresses in this order: the address space and the display are
kept, a peripheral outside the block has seen the reads of its own addresses, and every other byte reads as before. -/
def Reads (addrs : List Word) (s t : State) : Prop :=
  t.bus = s.bus ∧ t.display = s.display ∧ t.ioHistory = (addrs.foldl State.afterRead s).ioHistory ∧
    ∀ b, isExternalIo b = false → t.peek b = s.peek b

/-- The four flags have these values and the low nibble of F is kept. -/
def FlagsBecome (z n h c : Bool) (s t : State) : Prop :=
  t.fz = z ∧ t.fn = n ∧ t.fh = h ∧ t.fc = c ∧ t.regs.f &&& 0x0F = s.regs.f &&& 0x0F

/-- `cond(cc)` (44_control.md R250). -/
def CondHolds (s : State) (cc : Cond) : Prop :=
  match cc with
  | .nz => s.fz = false
  | .z => s.fz = true
  | .nc => s.fc = false
  | .c => s.fc = true

/-- The register file after `RP[p] <- v`, by its two halves or SP (10_state.md R22). -/
def pairRegs : Pair → List Reg8
  | .bc => [.b, .c]
  | .de => [.d, .e]
  | .hl => [.h, .l]
  | .sp => []

/-- The registers a popped pair writes, F aside. -/
def stackPairRegs : StackPair → List Reg8
  | .bc => [.b, .c]
  | .de => [.d, .e]
  | .hl => [.h, .l]
  | .af => [.a]

/-! ### Which reads a store may change -/

/-- A store to `a` may change what a read of `b` returns: the byte itself, its other name in the working RAM mirror, the
windows that a bank register selects, and external I/O, whose peripherals see every access. -/
def storeTouches (a b : Word) : Bool :=
  match regionOf a with
  | .romFixed =>
    if a.toNat < 0x2000 then decide (regionOf b = .eram) else decide (regionOf b = .romBanked)
  | .romBanked =>
    if a.toNat < 0x6000 then decide (regionOf b = .romBanked) || decide (regionOf b = .eram) else false
  | .wram => decide (b = a) || (decide (regionOf b = .echo) && decide (b = a + 0x2000))
  | .echo => decide (b = a) || decide (b = a - 0x2000)
  | .io => decide (b = a) || (isExternalIo a && isExternalIo b)
  | .vram | .eram | .oam | .hram | .ie => decide (b = a)
  | .unmapped => false

/-- The memory accesses of `s` to `t` are writes of these bytes to these addresses in this order, by `State.store`, and
every byte that none of them may change reads as before. -/
def Stores (writes : List (Word × Byte)) (s t : State) : Prop :=
  let u := writes.foldl (fun s c => s.store c.1 c.2) s
  t.bus = u.bus ∧ t.display = u.display ∧ t.ioHistory = u.ioHistory ∧
    ∀ b, (∀ c ∈ writes, storeTouches c.1 b = false) → t.peek b = s.peek b

/-- The regions whose every byte is storage a store always reaches (20_memory.md R63 to R65, R67, R68). -/
def plainRegion : Region → Bool
  | .vram | .wram | .echo | .oam | .hram | .ie => true
  | .romFixed | .romBanked | .eram | .unmapped | .io => false

/-- The 11 base opcode values with no table entry (30_encoding.md R124). -/
def unimplementedOpcodes : List Byte := [0xD3, 0xDB, 0xDD, 0xE3, 0xE4, 0xEB, 0xEC, 0xED, 0xF4, 0xFC, 0xFD]

/-- The addresses that an instruction's meaning stores to, executed in state `s`. -/
def storedAddrs (i : Instr) (s : State) : List Word :=
  match i with
  | .ldMemBcA => [s.bc]
  | .ldMemDeA => [s.de]
  | .ldMemHlB | .ldMemHlC | .ldMemHlD | .ldMemHlE | .ldMemHlH | .ldMemHlL | .ldMemHlA | .ldMemHlIncA |
    .ldMemHlDecA | .incMemHl | .decMemHl | .rlcMemHl | .rrcMemHl | .rlMemHl | .rrMemHl | .slaMemHl |
    .sraMemHl | .swapMemHl | .srlMemHl | .res0MemHl | .res1MemHl | .res2MemHl | .res3MemHl | .res4MemHl |
    .res5MemHl | .res6MemHl | .res7MemHl | .set0MemHl | .set1MemHl | .set2MemHl | .set3MemHl | .set4MemHl |
    .set5MemHl | .set6MemHl | .set7MemHl => [s.hl]
  | .ldMemHlD8 _ => [s.hl]
  | .ldMemA16A a => [a]
  | .ldhMemA8A n => [highPage n]
  | .ldMemCA => [highPage s.regs.c]
  | .ldMemA16Sp a => [a, a + 1]
  | .pushBc | .pushDe | .pushHl | .pushAf | .rst00 | .rst08 | .rst10 | .rst18 | .rst20 | .rst28 | .rst30 |
    .rst38 => [s.regs.sp - 1, s.regs.sp - 2]
  | .callA16 _ => [s.regs.sp - 1, s.regs.sp - 2]
  | .callNzA16 _ => if s.holds .nz then [s.regs.sp - 1, s.regs.sp - 2] else []
  | .callZA16 _ => if s.holds .z then [s.regs.sp - 1, s.regs.sp - 2] else []
  | .callNcA16 _ => if s.holds .nc then [s.regs.sp - 1, s.regs.sp - 2] else []
  | .callCA16 _ => if s.holds .c then [s.regs.sp - 1, s.regs.sp - 2] else []
  | .prefixCb op2 => if op2.toNat % 8 = 6 ∧ op2.toNat / 64 ≠ 1 then [s.hl] else []
  | _ => []

/-! ### The arithmetic of the rules, on exact integers -/

/-- `A <- a + b + cin` modulo 256 with the flags of `add8` (41_alu8.md R170), nothing else of the registers written. -/
def AddsToA (b : Byte) (cin : Bool) (s t : State) : Prop :=
  let a := s.regs.a.toNat
  let sum := a + b.toNat + cin.toNat
  t.regs.a.toNat = sum % 256 ∧
    FlagsBecome (decide (sum % 256 = 0)) false (decide (a % 16 + b.toNat % 16 + cin.toNat > 0xF))
      (decide (sum > 0xFF)) s t ∧
    RegsKeptBut [.a] s t ∧ ControlKept s t

/-- The flags of `sub8(A, b, bin)` (R170): the difference is zero, 1, the borrow out of the low nibble, the borrow out of
the byte. -/
def SubFlags (b : Byte) (bin : Bool) (s t : State) : Prop :=
  let a := s.regs.a.toNat
  FlagsBecome (decide (((a : Int) - b.toNat - bin.toNat) % 256 = 0)) true
    (decide (a % 16 < b.toNat % 16 + bin.toNat)) (decide (a < b.toNat + bin.toNat)) s t

/-- `A <- a - b - bin` modulo 256 with the flags of `sub8`, nothing else of the registers written. -/
def SubsFromA (b : Byte) (bin : Bool) (s t : State) : Prop :=
  (t.regs.a.toNat : Int) = ((s.regs.a.toNat : Int) - b.toNat - bin.toNat) % 256 ∧ SubFlags b bin s t ∧
    RegsKeptBut [.a] s t ∧ ControlKept s t

/-- CP: the flags of `sub8` and no register written (R192). -/
def ComparesA (b : Byte) (s t : State) : Prop := SubFlags b false s t ∧ RegsKeptBut [] s t ∧ ControlKept s t

/-- `A <- res`, Z from it, N and C clear, H as given (R183, R186, R189), nothing else of the registers written. -/
def LogicToA (res : Byte) (h : Bool) (s t : State) : Prop :=
  t.regs.a = res ∧ FlagsBecome (decide (res = 0)) false h false s t ∧ RegsKeptBut [.a] s t ∧ ControlKept s t

/-- The result of a rotate or shift of `v` with carry flag `cin`, as a number (43_bitops.md R219). -/
def rotValue (op : RotOp) (v cin : Nat) : Nat :=
  match op with
  | .rlc => (2 * v + v / 128) % 256
  | .rrc => v / 2 + 128 * (v % 2)
  | .rl => (2 * v + cin) % 256
  | .rr => v / 2 + 128 * cin
  | .sla => 2 * v % 256
  | .sra => v / 2 + 128 * (v / 128)
  | .swap => 16 * (v % 16) + v / 16
  | .srl => v / 2

/-- The carry a rotate or shift of `v` gives: the bit shifted out, 0 for SWAP (R219). -/
def rotBitOut (op : RotOp) (v : Nat) : Bool :=
  match op with
  | .rlc | .rl | .sla => decide (v / 128 = 1)
  | .rrc | .rr | .sra | .srl => decide (v % 2 = 1)
  | .swap => false

/-- `res` is the rotate or shift of `v`, and the flags are Z 0 0 C of it (R224 to R239). -/
def RotatesTo (op : RotOp) (v res : Byte) (s t : State) : Prop :=
  res.toNat = rotValue op v.toNat s.fc.toNat ∧
    FlagsBecome (decide (res.toNat = 0)) false false (rotBitOut op v.toNat) s t

/-- `res` is `v` with bit `b` made `x` and every other bit kept (R242, R244). -/
def BitPut (b : BitIndex) (x : Bool) (v res : Byte) : Prop :=
  ∀ i, i < 8 → res.getLsbD i = if i = bitNumber b then x else v.getLsbD i

/-- The binary-coded decimal byte of a number below 100. -/
def bcd (n : Nat) : Byte := BitVec.ofNat 8 (16 * (n / 10 % 10) + n % 10)

/-! ### The end of a run -/

/-- The latest step ended the run (60_exceptions.md R316). -/
def State.runEnded (s : State) : Prop :=
  s.outcome = some .halted ∨ s.outcome = some .unimplementedOpcode

end Sys2Proof.Machine
end

