-- ==== Sys2Proof/Certificates/Slice0/Obligations.lean ====
section
/-! DEFINITION. The statements for the provers, from the numbered rules of spec/. Each instruction statement holds for
every form of its family, in every state, and says of each form that it completes, what it writes and what it keeps. -/

open Sys2Proof Sys2Proof.Machine

/-! ### Construction -/

/-- The engine registers (R331) and the display (R333) of every constructed block; an advance by 0 right after
construction changes nothing. The values are the spec's post-boot values and its decisions D4, D5, D23 and D33 (log
entry 8). -/
def Obligations.ConstructedRegisters : Prop :=
  ∀ (load : HostLoad) (init : MemInit) (s : State), construct load init = .ok s →
    (s.regs.a = 0x01 ∧ s.regs.f = 0xB0 ∧ s.regs.b = 0x00 ∧ s.regs.c = 0x13 ∧ s.regs.d = 0x00 ∧ s.regs.e = 0xD8 ∧
      s.regs.h = 0x01 ∧ s.regs.l = 0x4D ∧ s.regs.sp = 0xFFFE ∧ s.regs.pc = 0x0100 ∧ s.regs.ime = false ∧
      s.regs.halted = false ∧ s.bus.ie = 0x00) ∧
    (s.display.mode = .oamScan ∧ s.display.modeClock = 0 ∧ s.display.ly = 0 ∧ s.display.lyc = 0 ∧
      s.display.lcdc = 0x91 ∧ s.display.stat = 0x86 ∧ s.display.scy = 0 ∧ s.display.scx = 0 ∧
      s.display.bgp = 0xFC ∧ s.display.obp0 = 0xFF ∧ s.display.obp1 = 0xFF ∧
      (∀ y x, s.pixel y x = Config.shade 0) ∧ s.display.frameCount = 0) ∧
    advance 0 s = s

/-- The address space of every constructed block (R332): the latches and bank registers, the effective ROM bank 1,
external RAM reading 0xFF, IE 0, and every storage byte as `MEM_INIT` gives it. The values are the spec's decisions D13,
D16 and D26 (log entry 8). -/
def Obligations.ConstructedAddressSpace : Prop :=
  ∀ (load : HostLoad) (init : MemInit) (s : State), construct load init = .ok s →
    s.bus.ramEnabled = false ∧ s.bus.bankingMode = false ∧ s.bus.romBank = 1 ∧ s.bus.ramBank = 0 ∧
    s.bus.effRomBank = 1 ∧ (∀ a, regionOf a = .eram → s.peek a = 0xFF) ∧ s.bus.ie = 0x00 ∧
    (∀ i, i < 0x2000 → Memory.get s.bus.vram i = init.vram i ∧ Memory.get s.bus.wram i = init.wram i) ∧
    (∀ i, i < 127 → Memory.get s.bus.hram i = init.hram i) ∧
    (∀ i, i < 160 → Memory.get s.bus.oam i = init.oam i) ∧
    (∀ i, i < s.bus.ramBankCount * 0x2000 → Memory.get s.bus.eram i = init.eram i)

/-- The outcome of construction, first failure first (R330, R74), and the bank counts from the header bytes 0x0148 and
0x0149 by the table of R73, read positionally and with the shortest image of 0x014A bytes: the spec's decisions D15 and
D35 (log entry 8). -/
def Obligations.HeaderDecoding : Prop :=
  ∀ (init : MemInit),
    construct .openFailed init = .error .cartOpenFailed ∧
    construct .allocFailed init = .error .cartAllocFailed ∧
    ∀ (bytes : List Byte),
      (bytes.length < 0x014A → construct (.image bytes) init = .error .cartTooShort) ∧
      (0x014A ≤ bytes.length →
        let rom := (bytes.getD 0x0148 0).toNat
        let ram := (bytes.getD 0x0149 0).toNat
        (5 < rom ∨ 5 < ram → construct (.image bytes) init = .error .headerCodeOutOfRange) ∧
        (rom ≤ 5 → ram ≤ 5 →
          ∃ s, construct (.image bytes) init = .ok s ∧
            s.bus.romBankCount = [2, 4, 8, 32, 64, 128].getD rom 0 ∧
            s.bus.ramBankCount = [0, 1, 1, 4, 16, 8].getD ram 0))

/-- The model's choice of `State.reset` (log entries 4 and 5): it is what `construct` gives for an image of 0x8000 zero
bytes and storage of zeros, the launch of the reference simulator. -/
def Obligations.ResetIsZeroImage : Prop :=
  construct (.image (List.replicate 0x8000 0))
    { vram := fun _ => 0, wram := fun _ => 0, hram := fun _ => 0, oam := fun _ => 0, eram := fun _ => 0 } =
    .ok State.reset

/-! ### Encoding -/

/-- Sample encodings of every family, written out from the opcode maps (R133, R134), decode to their instructions. -/
def Obligations.EncodingSamples : Prop :=
  decode [0x00] = .ok (.nop, []) ∧
  decode [0x06, 0x12] = .ok (.ldBD8 0x12, []) ∧
  decode [0x31, 0xFE, 0xFF] = .ok (.ldSpD16 0xFFFE, []) ∧
  decode [0x48] = .ok (.ldCB, []) ∧
  decode [0x7E] = .ok (.ldAMemHl, []) ∧
  decode [0x74] = .ok (.ldMemHlH, []) ∧
  decode [0x32] = .ok (.ldMemHlDecA, []) ∧
  decode [0xE0, 0x40] = .ok (.ldhMemA8A 0x40, []) ∧
  decode [0x08, 0x34, 0x12] = .ok (.ldMemA16Sp 0x1234, []) ∧
  decode [0xF5] = .ok (.pushAf, []) ∧
  decode [0x8E] = .ok (.adcAMemHl, []) ∧
  decode [0xD6, 0x01] = .ok (.subD8 0x01, []) ∧
  decode [0xBF] = .ok (.cpA, []) ∧
  decode [0x35] = .ok (.decMemHl, []) ∧
  decode [0x39] = .ok (.addHlSp, []) ∧
  decode [0xF8, 0x02] = .ok (.ldHlSpE8 0x02, []) ∧
  decode [0x1F] = .ok (.rra, []) ∧
  decode [0xCB, 0x37] = .ok (.swapA, []) ∧
  decode [0xCB, 0x7C] = .ok (.bit7H, []) ∧
  decode [0xCB, 0x8E] = .ok (.res1MemHl, []) ∧
  decode [0xCB, 0xDF] = .ok (.set3A, []) ∧
  decode [0x20, 0xFB] = .ok (.jrNzE8 0xFB, []) ∧
  decode [0xCD, 0x00, 0x02] = .ok (.callA16 0x0200, []) ∧
  decode [0xD8] = .ok (.retC, []) ∧
  decode [0xEF] = .ok (.rst28, []) ∧
  decode [0x76] = .ok (.halt, []) ∧
  decode [0x10, 0x00] = .ok (.stop 0x00, []) ∧
  decode [0xFB] = .ok (.ei, []) ∧
  decode [0xDD] = .ok (.unimplementedDD, [])

/-- Decoding the encoding of a well-formed instruction gives it back, with the bytes after it. -/
def Obligations.DecodeEncode : Prop :=
  ∀ (i : Instr) (rest : List Byte), i.WellFormed = true → decode (encode i ++ rest) = .ok (i, rest)

/-- The other direction: what the decoder reads is a well-formed instruction whose encoding is exactly the bytes read,
and it refuses only a list shorter than the instruction its first byte begins (R122). -/
def Obligations.DecodeReadsEncoding : Prop :=
  (∀ (bytes : List Byte) (i : Instr) (rest : List Byte), decode bytes = .ok (i, rest) →
    i.WellFormed = true ∧ encode i ++ rest = bytes) ∧
  (∀ (op : Byte) (rest : List Byte),
    (∃ e, decode (op :: rest) = .error e) ↔ rest.length + 1 < instrLength op)

/-- The 11 opcode values with no table entry (R124): exactly they decode to an unimplemented opcode, no prefixed value
does, and fetching one changes PC by 1 and nothing else of the block, with the outcome `UnimplementedOpcode` (recorded
in the model's field `outcome`, log entry 1) and no advance of the timer. -/
def Obligations.UnimplementedOpcodes : Prop :=
  (∀ op d1 d2 : Byte, (∃ u, decodeParts op d1 d2 = .unimplemented u) ↔ op ∈ unimplementedOpcodes) ∧
  (∀ (op2 : Byte) (u : Unimpl), decodeExtended op2 ≠ .unimplemented u) ∧
  (∀ (u : Unimpl) (s : State),
    exec (.unimplemented u) s = .next { s with outcome := some .unimplementedOpcode }) ∧
  (∀ s : State, s.regs.halted = false → s.peek s.regs.pc ∈ unimplementedOpcodes →
    step s = .next
      { s.afterRead s.regs.pc with regs.pc := s.regs.pc + 1, outcome := some .unimplementedOpcode })

/-- The prefix byte (R125): it selects the row of the extended table that the byte after it names, executed as one
instruction with PC past both bytes. The bare prefix as an instruction is the model's reading of its table row (log
entry 7). -/
def Obligations.PrefixSelectsExtendedRow : Prop :=
  (∀ op2 : Byte, decode [0xCB, op2] = .ok (decodeExtended op2, [])) ∧
  (∀ (op2 : Byte) (s : State),
    ∃ t n, exec (.prefixCb op2) s = .next t ∧ exec (decodeExtended op2) s = .next t ∧
      t.outcome = some (.cycles n)) ∧
  (∀ s : State, s.regs.halted = false → s.peek s.regs.pc = 0xCB →
    engineStep s = exec (decodeExtended (s.afterFetch8.peek (s.regs.pc + 1))) (s.afterFetch 2) ∧
    (s.afterFetch 2).regs.pc = s.regs.pc + 2)

/-! ### The step -/

/-- A step runs the decoded instruction: where the bytes at PC are the encoding of a well-formed instruction and the
engine is not halted, the step is that instruction executed with PC past its bytes, then the graphics timer advanced by
the cost it returned, and not advanced where it returned none (R120, R315). -/
def Obligations.StepRunsDecoded : Prop :=
  (∀ (i : Instr) (s : State), i.WellFormed = true → s.regs.halted = false →
    s.fetched (encode i).length = encode i →
    (s.afterFetch (encode i).length).regs.pc = s.regs.pc + BitVec.ofNat 16 (encode i).length ∧
    step s =
      match exec i (s.afterFetch (encode i).length) with
      | .next t => .next (afterStep t)
      | .fault r => .fault r
      | .refused r => .refused r) ∧
  (∀ (t : State) (n : Nat), t.outcome = some (.cycles n) → afterStep t = advance n t) ∧
  (∀ t : State, t.runEnded → afterStep t = t)

/-- Fetching bytes (R14, R27) reads the byte at PC each time and moves PC on by one, modulo 65536; it writes no other
register, no byte, no display state. -/
def Obligations.FetchAdvancesPc : Prop :=
  ∀ (n : Nat) (s : State),
    (s.afterFetch n).regs = { s.regs with pc := s.regs.pc + BitVec.ofNat 16 n } ∧
    (s.afterFetch n).bus = s.bus ∧ (s.afterFetch n).display = s.display ∧
    (s.afterFetch n).outcome = s.outcome ∧ (s.fetched n).length = n ∧
    ∀ k, k < n → (s.fetched n)[k]? = some ((s.afterFetch k).peek (s.regs.pc + BitVec.ofNat 16 k))

/-- A halted engine's step fetches nothing, changes nothing and returns `Halted` (R121). -/
def Obligations.HaltedStep : Prop :=
  ∀ s : State, s.regs.halted = true → step s = .next { s with outcome := some .halted }

/-- An engine step returns exactly one of three outcomes (R16, R280; recorded in the model's field `outcome`, log
entry 1): `Cycles(n)` with `n ≥ 1`, the engine not halted; `Halted`, the latch set; `UnimplementedOpcode`, one of the
11 opcodes fetched and PC past it. It never faults and is never refused. -/
def Obligations.OneOutcome : Prop :=
  ∀ s : State, ∃ t, engineStep s = .next t ∧
    ((∃ n, 1 ≤ n ∧ t.outcome = some (.cycles n) ∧ t.regs.halted = false) ∨
      (t.outcome = some .halted ∧ t.regs.halted = true) ∨
      (t.outcome = some .unimplementedOpcode ∧ s.regs.halted = false ∧ t.regs.halted = false ∧
        s.peek s.regs.pc ∈ unimplementedOpcodes ∧ t.regs.pc = s.regs.pc + 1))

/-- The end of a run (R316): a fuel-bounded run never stops otherwise than by `Halted`, `UnimplementedOpcode` or out of
fuel; it ends at the state of a step with that outcome; and more fuel does not change a run that has ended. -/
def Obligations.RunEndsByOutcome : Prop :=
  ∀ (fuel : Nat) (s : State),
    (run fuel s).1 ≠ .stopped ∧
    (∀ t, (run fuel s).1 = .halted t → t.outcome = some .halted ∧ t.regs.halted = true) ∧
    (∀ t, (run fuel s).1 = .unimplementedOpcode t → t.outcome = some .unimplementedOpcode) ∧
    (∀ t, (run fuel s).1 = .outOfFuel t → fuel = 0 ∨ ∃ n, t.outcome = some (.cycles n)) ∧
    (∀ more, (∀ t, (run fuel s).1 ≠ .outOfFuel t) → run (fuel + more) s = run fuel s)

/-! ### Invariants and whole-machine rules -/

/-- Every step keeps the invariant: every store canonical and inside its region, the low nibble of F zero, the bank
registers and counts legal, the display's mode, clock, LY and STAT consistent. -/
def Obligations.StepKeepsInvariant : Prop :=
  ∀ s t : State, s.Inv = true → step s = .next t → t.Inv = true

/-- The invariant holds at reset. -/
def Obligations.ResetInvariant : Prop := State.reset.Inv = true

/-- The invariant holds in every constructed block, whatever the image and the initial contents. -/
def Obligations.ConstructedInvariant : Prop :=
  ∀ (load : HostLoad) (init : MemInit) (s : State), construct load init = .ok s → s.Inv = true

/-- The cartridge buffer holds the image and nothing writes it (R31); the bank counts never change (R32). -/
def Obligations.CartridgeConstant : Prop :=
  (∀ (bytes : List Byte) (init : MemInit) (s : State), construct (.image bytes) init = .ok s →
    s.bus.cartLen = bytes.length ∧ ∀ i, i < bytes.length → s.bus.cartByte i = bytes.getD i 0) ∧
  (∀ s t : State, step s = .next t →
    t.bus.cart = s.bus.cart ∧ t.bus.cartLen = s.bus.cartLen ∧ t.bus.romBankCount = s.bus.romBankCount ∧
      t.bus.ramBankCount = s.bus.ramBankCount)

/-- IME is written by DI, EI and RETI only and read by nothing (R286): two states that differ in IME alone step to
states that differ in IME alone, with the same outcome. -/
def Obligations.ImeReadByNothing : Prop :=
  (∀ (i : Instr) (s t : State), exec i s = .next t →
    t.regs.ime = if i = .di then false else if i = .ei ∨ i = .reti then true else s.regs.ime) ∧
  (∀ (s t : State) (b : Bool), step s = .next t →
    ∃ b', step { s with regs.ime := b } = .next { t with regs.ime := b' })

/-- The low nibble of F (R25, the spec's decision D3): POP AF stores the popped byte with the nibble cleared, and no
other instruction touches the nibble. -/
def Obligations.FlagLowNibble : Prop :=
  ∀ (i : Instr) (s t : State), exec i s = .next t →
    (i = .popAf → t.regs.f = s.peek s.regs.sp &&& 0xF0) ∧
    (i ≠ .popAf → t.regs.f &&& 0x0F = s.regs.f &&& 0x0F) ∧
    (s.regs.f &&& 0x0F = 0 → t.regs.f &&& 0x0F = 0)

/-- The memory frame of every instruction: a byte that none of the addresses it stores to may touch reads as before, and
an instruction that stores nothing keeps the whole address space and the display. A byte of a peripheral outside the
block is left out: every access is one that its next answer may depend on (R66). -/
def Obligations.InstrMemoryFrame : Prop :=
  ∀ (i : Instr) (s t : State), exec i s = .next t →
    (∀ b, isExternalIo b = false → (∀ a ∈ storedAddrs i s, storeTouches a b = false) → t.peek b = s.peek b) ∧
    (storedAddrs i s = [] → t.bus = s.bus ∧ t.display = s.display)

/-- No engine step writes the timer's own state (R44, R48, R49): LY, the mode, the mode clock, the frame buffer and the
frame count change by an advance only. -/
def Obligations.EngineKeepsTimer : Prop :=
  ∀ s t : State, engineStep s = .next t →
    t.display.ly = s.display.ly ∧ t.display.mode = s.display.mode ∧
      t.display.modeClock = s.display.modeClock ∧ t.display.fb = s.display.fb ∧
      t.display.frameCount = s.display.frameCount

/-! ### The address space -/

/-- The read function by ranges (R57). -/
def Obligations.ReadMap : Prop :=
  ∀ (s : State) (addr : Word),
    let a := addr.toNat
    let cartByte := fun o => if o < s.bus.cartLen then Memory.get s.bus.cart o else 0xFF
    s.peek addr =
      if a < 0x4000 then cartByte a
      else if a < 0x8000 then cartByte (s.bus.effRomBank * 0x4000 + (a - 0x4000))
      else if a < 0xA000 then Memory.get s.bus.vram (a - 0x8000)
      else if a < 0xC000 then
        (if s.bus.ramEnabled = true ∧ s.bus.ramBankCount > 0 then
          Memory.get s.bus.eram (s.bus.effRamBank * 0x2000 + (a - 0xA000))
        else 0xFF)
      else if a < 0xE000 then Memory.get s.bus.wram (a - 0xC000)
      else if a < 0xFE00 then Memory.get s.bus.wram (a - 0xE000)
      else if a < 0xFEA0 then Memory.get s.bus.oam (a - 0xFE00)
      else if a < 0xFF00 then 0xFF
      else if a < 0xFF80 then
        (match displayReg addr with
        | some r => s.display.read r
        | none => Config.ioExtRead s.ioHistory addr)
      else if a < 0xFFFF then Memory.get s.bus.hram (a - 0xFF80)
      else s.bus.ie

/-- The write function by ranges (R58), with the bank-switch writes of R69 to R72 below 0x8000 and the display
registers of R66 in the I/O port space; no write changes the cartridge. What a peripheral outside the block is sent is
kept in the model's history (log entry 3). -/
def Obligations.WriteMap : Prop :=
  ∀ (s : State) (addr : Word) (v : Byte),
    let a := addr.toNat
    s.store addr v =
      (if a < 0x2000 then { s with bus := s.bus.bankWriteRamEnable v }
      else if a < 0x4000 then { s with bus := s.bus.bankWriteRomLow v }
      else if a < 0x6000 then { s with bus := s.bus.bankWriteUpper v }
      else if a < 0x8000 then { s with bus := s.bus.bankWriteMode v }
      else if a < 0xA000 then { s with bus.vram := Memory.set s.bus.vram (a - 0x8000) v }
      else if a < 0xC000 then
        (if s.bus.ramEnabled = true ∧ s.bus.ramBankCount > 0 then
          { s with bus.eram := Memory.set s.bus.eram (s.bus.effRamBank * 0x2000 + (a - 0xA000)) v }
        else s)
      else if a < 0xE000 then { s with bus.wram := Memory.set s.bus.wram (a - 0xC000) v }
      else if a < 0xFE00 then { s with bus.wram := Memory.set s.bus.wram (a - 0xE000) v }
      else if a < 0xFEA0 then { s with bus.oam := Memory.set s.bus.oam (a - 0xFE00) v }
      else if a < 0xFF00 then s
      else if a < 0xFF80 then
        (match displayReg addr with
        | some r => { s with display := s.display.write r v }
        | none => { s with ioHistory := .write addr v :: s.ioHistory })
      else if a < 0xFFFF then { s with bus.hram := Memory.set s.bus.hram (a - 0xFF80) v }
      else { s with bus.ie := v }) ∧
    (s.store addr v).bus.cart = s.bus.cart ∧ (s.store addr v).bus.cartLen = s.bus.cartLen

/-- The bank-switch protocol: a store below 0x8000 writes one bank register and nothing else. RAM enable (R69), the
low five bits of the ROM bank with 0 coerced to 1 (R70, the coercion by the spec's decision D8), the upper two bits or
the RAM bank by the banking mode (R71), the banking mode (R72). -/
def Obligations.BankProtocol : Prop :=
  ∀ (s : State) (addr : Word) (v : Byte),
    (addr.toNat < 0x2000 → s.store addr v = { s with bus.ramEnabled := decide (v.toNat % 16 = 0xA) }) ∧
    (0x2000 ≤ addr.toNat → addr.toNat < 0x4000 →
      ∃ bank : BitVec 7, s.store addr v = { s with bus.romBank := bank } ∧
        bank.toNat = 32 * (s.bus.romBank.toNat / 32) + (if v.toNat % 32 = 0 then 1 else v.toNat % 32)) ∧
    (0x4000 ≤ addr.toNat → addr.toNat < 0x6000 → s.bus.bankingMode = false →
      ∃ bank : BitVec 7, s.store addr v = { s with bus.romBank := bank } ∧
        bank.toNat = 32 * (v.toNat % 4) + s.bus.romBank.toNat % 32) ∧
    (0x4000 ≤ addr.toNat → addr.toNat < 0x6000 → s.bus.bankingMode = true →
      ∃ bank : BitVec 2, s.store addr v = { s with bus.ramBank := bank } ∧ bank.toNat = v.toNat % 4) ∧
    (0x6000 ≤ addr.toNat → addr.toNat < 0x8000 →
      s.store addr v = { s with bus.bankingMode := decide (v.toNat % 2 = 1) })

/-- The effective banks (R61, R62, by the spec's decisions D9, D10 and D11): for every count of the header tables the
ROM bank is the register modulo the count, with 0 made 1, and lies in 1 to count - 1; external RAM is reached only if
it is enabled and present, in the bank the register names modulo the count, whatever the banking mode, and otherwise
reads 0xFF and discards stores. -/
def Obligations.EffectiveBanks : Prop :=
  (∀ b : AddressSpace, b.romBankCount ∈ [2, 4, 8, 32, 64, 128] →
    b.effRomBank = (if b.romBank.toNat % b.romBankCount = 0 then 1 else b.romBank.toNat % b.romBankCount) ∧
    1 ≤ b.effRomBank ∧ b.effRomBank ≤ b.romBankCount - 1) ∧
  (∀ (s : State) (addr : Word), 0xA000 ≤ addr.toNat → addr.toNat < 0xC000 →
    (¬ (s.bus.ramEnabled = true ∧ 0 < s.bus.ramBankCount) →
      s.peek addr = 0xFF ∧ ∀ v, s.store addr v = s) ∧
    (s.bus.ramEnabled = true → s.bus.ramBankCount ∈ [1, 4, 8, 16] →
      let o := s.bus.ramBank.toNat % s.bus.ramBankCount * 0x2000 + (addr.toNat - 0xA000)
      o < s.bus.ramBankCount * 0x2000 ∧ s.peek addr = Memory.get s.bus.eram o ∧
        ∀ v, s.store addr v = { s with bus.eram := Memory.set s.bus.eram o v }))

/-- The I/O port space (R66): the nine display registers at their addresses, STAT taking bits 6 to 3 of a store and LY
none, and every other address a free byte of a peripheral outside the block that a store leaves the block unchanged
for. That the free byte is a function of the accesses so far is the model's choice (log entry 3). -/
def Obligations.IoPorts : Prop :=
  ∀ (s : State) (v : Byte),
    (s.peek 0xFF40 = s.display.lcdc ∧ s.store 0xFF40 v = { s with display.lcdc := v }) ∧
    (s.peek 0xFF41 = s.display.stat ∧
      s.store 0xFF41 v = { s with display.stat := (s.display.stat &&& 0x07) ||| (v &&& 0x78) ||| 0x80 }) ∧
    (s.peek 0xFF42 = s.display.scy ∧ s.store 0xFF42 v = { s with display.scy := v }) ∧
    (s.peek 0xFF43 = s.display.scx ∧ s.store 0xFF43 v = { s with display.scx := v }) ∧
    (s.peek 0xFF44 = s.display.ly ∧ s.store 0xFF44 v = s) ∧
    (s.peek 0xFF45 = s.display.lyc ∧ s.store 0xFF45 v = { s with display.lyc := v }) ∧
    (s.peek 0xFF47 = s.display.bgp ∧ s.store 0xFF47 v = { s with display.bgp := v }) ∧
    (s.peek 0xFF48 = s.display.obp0 ∧ s.store 0xFF48 v = { s with display.obp0 := v }) ∧
    (s.peek 0xFF49 = s.display.obp1 ∧ s.store 0xFF49 v = { s with display.obp1 := v }) ∧
    (∀ addr : Word, 0xFF00 ≤ addr.toNat → addr.toNat < 0xFF80 →
      (addr.toNat < 0xFF40 ∨ addr.toNat = 0xFF46 ∨ 0xFF49 < addr.toNat) →
      s.peek addr = Config.ioExtRead s.ioHistory addr ∧
        s.afterRead addr = { s with ioHistory := .read addr :: s.ioHistory } ∧
        s.store addr v = { s with ioHistory := .write addr v :: s.ioHistory })

/-- Storage reads back what was stored last (R63, R64, R65, R67, R68), the working RAM mirror is the same bytes as
working RAM, and the unmapped hole reads 0xFF and discards stores. -/
def Obligations.StorageReadsBack : Prop :=
  ∀ (s : State) (addr : Word) (v : Byte),
    (plainRegion (regionOf addr) = true → (s.store addr v).peek addr = v) ∧
    (regionOf addr = .eram → s.bus.eramReachable = true → (s.store addr v).peek addr = v) ∧
    (regionOf addr = .echo →
      regionOf (addr - 0x2000) = .wram ∧ s.peek addr = s.peek (addr - 0x2000) ∧
        s.store addr v = s.store (addr - 0x2000) v) ∧
    (regionOf addr = .unmapped → s.peek addr = 0xFF ∧ s.store addr v = s)

/-- Words are little-endian in memory and on the stack (R13, R15, R75, R77, R78): where both bytes are storage, a word
stored is its low byte at the address and its high byte at the next, modulo 65536, and reads back; a word pushed lies
below the old SP in the same order, and popping it gives it and SP back. -/
def Obligations.WordsAndStack : Prop :=
  ∀ (s : State) (addr v : Word),
    (plainRegion (regionOf addr) = true → plainRegion (regionOf (addr + 1)) = true →
      (s.storeWord addr v).peek addr = loByte v ∧ (s.storeWord addr v).peek (addr + 1) = hiByte v ∧
        (s.storeWord addr v).peekWord addr = v) ∧
    (plainRegion (regionOf (s.regs.sp - 1)) = true → plainRegion (regionOf (s.regs.sp - 2)) = true →
      (s.push16 v).regs = { s.regs with sp := s.regs.sp - 2 } ∧
        (s.push16 v).peek (s.regs.sp - 1) = hiByte v ∧ (s.push16 v).peek (s.regs.sp - 2) = loByte v ∧
        (s.push16 v).pop16 = v ∧ (s.push16 v).afterPop16.regs = s.regs)

/-! ### Loads and stores -/

/-- LD r,r' (R140) and LD r,d8 (R141): encoding, cost, result and frame. -/
def Obligations.LoadRegister : Prop :=
  ∀ (dst src : Reg8) (v : Byte) (s : State),
    encode (.ldReg dst src) = [BitVec.ofNat 8 (0x40 + 8 * dst.field + src.field)] ∧
    Completes (.ldReg dst src) s 1 (fun t =>
      t.reg dst = s.reg src ∧ RegsKeptBut [dst] s t ∧ t.regs.f = s.regs.f ∧ ControlKept s t ∧ MemoryKept s t) ∧
    encode (.ldRegImm dst v) = [BitVec.ofNat 8 (0x06 + 8 * dst.field), v] ∧
    Completes (.ldRegImm dst v) s 2 (fun t =>
      t.reg dst = v ∧ RegsKeptBut [dst] s t ∧ t.regs.f = s.regs.f ∧ ControlKept s t ∧ MemoryKept s t)

/-- Loads of a byte from memory: LD r,(HL) (R142), LD A,(BC) (R145), LD A,(DE) (R146), LD A,(a16) (R149), LDH A,(a8)
(R151), LD A,(C) (R153). The address is taken before the register is written. -/
def Obligations.LoadByte : Prop :=
  ∀ (s : State) (a : Word) (n : Byte) (dst : Reg8),
    let loads := fun (r : Reg8) (addr : Word) (t : State) =>
      t.reg r = s.peek addr ∧ RegsKeptBut [r] s t ∧ t.regs.f = s.regs.f ∧ ControlKept s t ∧ Reads [addr] s t
    (encode (.ldRegHl dst) = [BitVec.ofNat 8 (0x46 + 8 * dst.field)] ∧
      Completes (.ldRegHl dst) s 2 (loads dst s.hl)) ∧
    (encode .ldAMemBc = [0x0A] ∧ Completes .ldAMemBc s 2 (loads .a s.bc)) ∧
    (encode .ldAMemDe = [0x1A] ∧ Completes .ldAMemDe s 2 (loads .a s.de)) ∧
    (encode (.ldAMemA16 a) = [0xFA, loByte a, hiByte a] ∧ Completes (.ldAMemA16 a) s 4 (loads .a a)) ∧
    (encode (.ldhAMemA8 n) = [0xF0, n] ∧ Completes (.ldhAMemA8 n) s 3 (loads .a (mkWord 0xFF n))) ∧
    (encode .ldAMemC = [0xF2] ∧ Completes .ldAMemC s 2 (loads .a (mkWord 0xFF s.regs.c)))

/-- Stores of a byte: LD (HL),r (R143), LD (HL),d8 (R144), LD (BC),A (R147), LD (DE),A (R148), LD (a16),A (R150),
LDH (a8),A (R152), LD (C),A (R154). -/
def Obligations.StoreByte : Prop :=
  ∀ (s : State) (a : Word) (n v : Byte) (src : Reg8),
    let stores := fun (addr : Word) (x : Byte) (t : State) =>
      RegsKeptBut [] s t ∧ t.regs.f = s.regs.f ∧ ControlKept s t ∧ Stores [(addr, x)] s t
    (encode (.ldHlReg src) = [BitVec.ofNat 8 (0x70 + src.field)] ∧
      Completes (.ldHlReg src) s 2 (stores s.hl (s.reg src))) ∧
    (encode (.ldMemHlD8 v) = [0x36, v] ∧ Completes (.ldMemHlD8 v) s 3 (stores s.hl v)) ∧
    (encode .ldMemBcA = [0x02] ∧ Completes .ldMemBcA s 2 (stores s.bc s.regs.a)) ∧
    (encode .ldMemDeA = [0x12] ∧ Completes .ldMemDeA s 2 (stores s.de s.regs.a)) ∧
    (encode (.ldMemA16A a) = [0xEA, loByte a, hiByte a] ∧ Completes (.ldMemA16A a) s 4 (stores a s.regs.a)) ∧
    (encode (.ldhMemA8A n) = [0xE0, n] ∧ Completes (.ldhMemA8A n) s 3 (stores (mkWord 0xFF n) s.regs.a)) ∧
    (encode .ldMemCA = [0xE2] ∧ Completes .ldMemCA s 2 (stores (mkWord 0xFF s.regs.c) s.regs.a))

/-- The post-increment and post-decrement forms: LD (HL+),A (R155), LD (HL-),A (R156), LD A,(HL+) (R157), LD A,(HL-)
(R158). The access is at the old HL; HL then moves by one modulo 65536. -/
def Obligations.LoadStoreStepHl : Prop :=
  ∀ s : State,
    let stepsHl := fun (d : Nat) (t : State) => t.hl.toNat = (s.hl.toNat + d) % 65536
    (encode .ldMemHlIncA = [0x22] ∧ Completes .ldMemHlIncA s 2 (fun t =>
      stepsHl 1 t ∧ RegsKeptBut [.h, .l] s t ∧ t.regs.f = s.regs.f ∧ ControlKept s t ∧
        Stores [(s.hl, s.regs.a)] s t)) ∧
    (encode .ldMemHlDecA = [0x32] ∧ Completes .ldMemHlDecA s 2 (fun t =>
      stepsHl 65535 t ∧ RegsKeptBut [.h, .l] s t ∧ t.regs.f = s.regs.f ∧ ControlKept s t ∧
        Stores [(s.hl, s.regs.a)] s t)) ∧
    (encode .ldAMemHlInc = [0x2A] ∧ Completes .ldAMemHlInc s 2 (fun t =>
      t.regs.a = s.peek s.hl ∧ stepsHl 1 t ∧ RegsKeptBut [.a, .h, .l] s t ∧ t.regs.f = s.regs.f ∧
        ControlKept s t ∧ Reads [s.hl] s t)) ∧
    (encode .ldAMemHlDec = [0x3A] ∧ Completes .ldAMemHlDec s 2 (fun t =>
      t.regs.a = s.peek s.hl ∧ stepsHl 65535 t ∧ RegsKeptBut [.a, .h, .l] s t ∧ t.regs.f = s.regs.f ∧
        ControlKept s t ∧ Reads [s.hl] s t))

/-- 16-bit transfers: LD rr,d16 (R159), LD (a16),SP (R160) and LD SP,HL (R161). -/
def Obligations.LoadWord : Prop :=
  ∀ (s : State) (p : Pair) (w a : Word),
    (encode (.ldPair p w) = [BitVec.ofNat 8 (0x01 + 16 * p.field), loByte w, hiByte w] ∧
      Completes (.ldPair p w) s 3 (fun t =>
        t.pair p = w ∧ RegsKeptBut (pairRegs p) s t ∧ (p ≠ .sp → t.regs.sp = s.regs.sp) ∧
          t.regs.f = s.regs.f ∧ t.regs.pc = s.regs.pc ∧ LatchesKept s t ∧ MemoryKept s t)) ∧
    (encode (.ldMemA16Sp a) = [0x08, loByte a, hiByte a] ∧
      Completes (.ldMemA16Sp a) s 5 (fun t =>
        RegsKeptBut [] s t ∧ t.regs.f = s.regs.f ∧ ControlKept s t ∧
          Stores [(a, loByte s.regs.sp), (a + 1, hiByte s.regs.sp)] s t)) ∧
    (encode .ldSpHl = [0xF9] ∧
      Completes .ldSpHl s 2 (fun t =>
        t.regs.sp = s.hl ∧ RegsKeptBut [] s t ∧ t.regs.f = s.regs.f ∧ t.regs.pc = s.regs.pc ∧
          LatchesKept s t ∧ MemoryKept s t))

/-- PUSH qq (R162), POP qq (R163) and POP AF (R164): the high byte is pushed first, at the higher address; SP moves by 2
modulo 65536; POP AF clears the low nibble of F. -/
def Obligations.PushPop : Prop :=
  ∀ (s : State) (p : StackPair),
    (encode (.push p) = [BitVec.ofNat 8 (0xC5 + 16 * p.field)] ∧
      Completes (.push p) s 4 (fun t =>
        t.regs.sp = s.regs.sp - 2 ∧ RegsKeptBut [] s t ∧ t.regs.f = s.regs.f ∧ t.regs.pc = s.regs.pc ∧
          LatchesKept s t ∧
          Stores [(s.regs.sp - 1, hiByte (s.stackPair p)), (s.regs.sp - 2, loByte (s.stackPair p))] s t)) ∧
    (encode (.pop p) = [BitVec.ofNat 8 (0xC1 + 16 * p.field)] ∧
      Completes (.pop p) s 3 (fun t =>
        let lo := s.peek s.regs.sp
        let hi := (s.afterRead s.regs.sp).peek (s.regs.sp + 1)
        t.stackPair p = mkWord hi (if p = .af then lo &&& 0xF0 else lo) ∧
          RegsKeptBut (stackPairRegs p) s t ∧ (p ≠ .af → t.regs.f = s.regs.f) ∧
          t.regs.sp = s.regs.sp + 2 ∧ t.regs.pc = s.regs.pc ∧ LatchesKept s t ∧
          Reads [s.regs.sp, s.regs.sp + 1] s t))

/-! ### 8-bit arithmetic and logic -/

/-- ADD A and ADC A with a register, (HL) and d8 (R171 to R176): the exact sum modulo 256, and the flags Z, 0, H from
the low nibbles, C from the exact sum; ADC adds the carry flag too. -/
def Obligations.AddCarry : Prop :=
  ∀ (s : State) (r : Reg8) (v : Byte),
    (encode (.aluReg .add r) = [BitVec.ofNat 8 (0x80 + r.field)] ∧
      Completes (.aluReg .add r) s 1 (fun t => AddsToA (s.reg r) false s t ∧ MemoryKept s t)) ∧
    (encode (.aluHl .add) = [0x86] ∧
      Completes (.aluHl .add) s 2 (fun t => AddsToA (s.peek s.hl) false s t ∧ Reads [s.hl] s t)) ∧
    (encode (.aluImm .add v) = [0xC6, v] ∧
      Completes (.aluImm .add v) s 2 (fun t => AddsToA v false s t ∧ MemoryKept s t)) ∧
    (encode (.aluReg .adc r) = [BitVec.ofNat 8 (0x88 + r.field)] ∧
      Completes (.aluReg .adc r) s 1 (fun t => AddsToA (s.reg r) s.fc s t ∧ MemoryKept s t)) ∧
    (encode (.aluHl .adc) = [0x8E] ∧
      Completes (.aluHl .adc) s 2 (fun t => AddsToA (s.peek s.hl) s.fc s t ∧ Reads [s.hl] s t)) ∧
    (encode (.aluImm .adc v) = [0xCE, v] ∧
      Completes (.aluImm .adc v) s 2 (fun t => AddsToA v s.fc s t ∧ MemoryKept s t))

/-- SUB, SBC A and CP with a register, (HL) and d8 (R177 to R182, R192 to R194): the exact difference modulo 256, and
the flags Z, 1, H and C as borrows; SBC subtracts the carry flag too; CP writes no register. -/
def Obligations.SubtractCompare : Prop :=
  ∀ (s : State) (r : Reg8) (v : Byte),
    (encode (.aluReg .sub r) = [BitVec.ofNat 8 (0x90 + r.field)] ∧
      Completes (.aluReg .sub r) s 1 (fun t => SubsFromA (s.reg r) false s t ∧ MemoryKept s t)) ∧
    (encode (.aluHl .sub) = [0x96] ∧
      Completes (.aluHl .sub) s 2 (fun t => SubsFromA (s.peek s.hl) false s t ∧ Reads [s.hl] s t)) ∧
    (encode (.aluImm .sub v) = [0xD6, v] ∧
      Completes (.aluImm .sub v) s 2 (fun t => SubsFromA v false s t ∧ MemoryKept s t)) ∧
    (encode (.aluReg .sbc r) = [BitVec.ofNat 8 (0x98 + r.field)] ∧
      Completes (.aluReg .sbc r) s 1 (fun t => SubsFromA (s.reg r) s.fc s t ∧ MemoryKept s t)) ∧
    (encode (.aluHl .sbc) = [0x9E] ∧
      Completes (.aluHl .sbc) s 2 (fun t => SubsFromA (s.peek s.hl) s.fc s t ∧ Reads [s.hl] s t)) ∧
    (encode (.aluImm .sbc v) = [0xDE, v] ∧
      Completes (.aluImm .sbc v) s 2 (fun t => SubsFromA v s.fc s t ∧ MemoryKept s t)) ∧
    (encode (.aluReg .cp r) = [BitVec.ofNat 8 (0xB8 + r.field)] ∧
      Completes (.aluReg .cp r) s 1 (fun t => ComparesA (s.reg r) s t ∧ MemoryKept s t)) ∧
    (encode (.aluHl .cp) = [0xBE] ∧
      Completes (.aluHl .cp) s 2 (fun t => ComparesA (s.peek s.hl) s t ∧ Reads [s.hl] s t)) ∧
    (encode (.aluImm .cp v) = [0xFE, v] ∧
      Completes (.aluImm .cp v) s 2 (fun t => ComparesA v s t ∧ MemoryKept s t))

/-- AND, XOR and OR with a register, (HL) and d8 (R183 to R191): Z from the result, N and C clear, H set by AND alone.
-/
def Obligations.Logic : Prop :=
  ∀ (s : State) (r : Reg8) (v : Byte),
    let a := s.regs.a
    let m := s.peek s.hl
    (encode (.aluReg .and r) = [BitVec.ofNat 8 (0xA0 + r.field)] ∧
      Completes (.aluReg .and r) s 1 (fun t => LogicToA (a &&& s.reg r) true s t ∧ MemoryKept s t)) ∧
    (encode (.aluHl .and) = [0xA6] ∧
      Completes (.aluHl .and) s 2 (fun t => LogicToA (a &&& m) true s t ∧ Reads [s.hl] s t)) ∧
    (encode (.aluImm .and v) = [0xE6, v] ∧
      Completes (.aluImm .and v) s 2 (fun t => LogicToA (a &&& v) true s t ∧ MemoryKept s t)) ∧
    (encode (.aluReg .xor r) = [BitVec.ofNat 8 (0xA8 + r.field)] ∧
      Completes (.aluReg .xor r) s 1 (fun t => LogicToA (a ^^^ s.reg r) false s t ∧ MemoryKept s t)) ∧
    (encode (.aluHl .xor) = [0xAE] ∧
      Completes (.aluHl .xor) s 2 (fun t => LogicToA (a ^^^ m) false s t ∧ Reads [s.hl] s t)) ∧
    (encode (.aluImm .xor v) = [0xEE, v] ∧
      Completes (.aluImm .xor v) s 2 (fun t => LogicToA (a ^^^ v) false s t ∧ MemoryKept s t)) ∧
    (encode (.aluReg .or r) = [BitVec.ofNat 8 (0xB0 + r.field)] ∧
      Completes (.aluReg .or r) s 1 (fun t => LogicToA (a ||| s.reg r) false s t ∧ MemoryKept s t)) ∧
    (encode (.aluHl .or) = [0xB6] ∧
      Completes (.aluHl .or) s 2 (fun t => LogicToA (a ||| m) false s t ∧ Reads [s.hl] s t)) ∧
    (encode (.aluImm .or v) = [0xF6, v] ∧
      Completes (.aluImm .or v) s 2 (fun t => LogicToA (a ||| v) false s t ∧ MemoryKept s t))

/-- INC and DEC of a register and of (HL) (R195 to R198): one more or less modulo 256, Z from the result, N 0 or 1, H
from the value before, C kept. -/
def Obligations.IncDec : Prop :=
  ∀ (s : State) (r : Reg8),
    let incs := fun (v res : Byte) (t : State) =>
      res.toNat = (v.toNat + 1) % 256 ∧ FlagsBecome (decide (res = 0)) false (decide (v.toNat % 16 + 1 > 0xF)) s.fc s t
    let decs := fun (v res : Byte) (t : State) =>
      res.toNat = (v.toNat + 255) % 256 ∧ FlagsBecome (decide (res = 0)) true (decide (v.toNat % 16 < 1)) s.fc s t
    (encode (.incReg r) = [BitVec.ofNat 8 (0x04 + 8 * r.field)] ∧
      Completes (.incReg r) s 1 (fun t =>
        incs (s.reg r) (t.reg r) t ∧ RegsKeptBut [r] s t ∧ ControlKept s t ∧ MemoryKept s t)) ∧
    (encode .incMemHl = [0x34] ∧
      Completes .incMemHl s 3 (fun t => ∃ res,
        incs (s.peek s.hl) res t ∧ RegsKeptBut [] s t ∧ ControlKept s t ∧
          Stores [(s.hl, res)] (s.afterRead s.hl) t)) ∧
    (encode (.decReg r) = [BitVec.ofNat 8 (0x05 + 8 * r.field)] ∧
      Completes (.decReg r) s 1 (fun t =>
        decs (s.reg r) (t.reg r) t ∧ RegsKeptBut [r] s t ∧ ControlKept s t ∧ MemoryKept s t)) ∧
    (encode .decMemHl = [0x35] ∧
      Completes .decMemHl s 3 (fun t => ∃ res,
        decs (s.peek s.hl) res t ∧ RegsKeptBut [] s t ∧ ControlKept s t ∧
          Stores [(s.hl, res)] (s.afterRead s.hl) t))

/-- DAA (R199): the adjustment of A by 0x60 and 0x06 from A, N, H and C, Z from the result, N kept, H cleared, and C set
by an addition's adjustment and only kept after a subtraction. -/
def Obligations.DecimalAdjust : Prop :=
  ∀ s : State,
    let a := s.regs.a.toNat
    let carry := if s.fn = true then s.fc else s.fc || decide (a > 0x99)
    let a1 : Int := if carry = true then (if s.fn = true then (a : Int) - 0x60 else a + 0x60) else a
    let half := if s.fn = true then s.fh else s.fh || decide (a1 % 16 > 9)
    let a2 : Int := if half = true then (if s.fn = true then a1 - 6 else a1 + 6) else a1
    encode .daa = [0x27] ∧
    Completes .daa s 1 (fun t =>
      (t.regs.a.toNat : Int) = a2 % 256 ∧ FlagsBecome (decide (a2 % 256 = 0)) s.fn false carry s t ∧
        RegsKeptBut [.a] s t ∧ ControlKept s t ∧ MemoryKept s t)

/-- What DAA is for (R199): after ADD of two binary-coded decimal bytes it leaves the binary-coded decimal sum modulo
100 in A and the decimal carry in C; after SUB the difference modulo 100 and the decimal borrow. -/
def Obligations.DecimalAdjustCorrects : Prop :=
  ∀ (s : State) (x y : Nat), x < 100 → y < 100 → s.regs.a = bcd x →
    (∃ t u, exec (.addAD8 (bcd y)) s = .next t ∧ exec .daa t = .next u ∧
      u.regs.a = bcd ((x + y) % 100) ∧ u.fc = decide (100 ≤ x + y)) ∧
    (∃ t u, exec (.subD8 (bcd y)) s = .next t ∧ exec .daa t = .next u ∧
      u.regs.a = bcd ((100 + x - y) % 100) ∧ u.fc = decide (x < y))

/-- CPL (R200), SCF (R201) and CCF (R202). -/
def Obligations.ComplementAndCarry : Prop :=
  ∀ s : State,
    (encode .cpl = [0x2F] ∧ Completes .cpl s 1 (fun t =>
      t.regs.a.toNat = 255 - s.regs.a.toNat ∧ FlagsBecome s.fz true true s.fc s t ∧ RegsKeptBut [.a] s t ∧
        ControlKept s t ∧ MemoryKept s t)) ∧
    (encode .scf = [0x37] ∧ Completes .scf s 1 (fun t =>
      FlagsBecome s.fz false false true s t ∧ RegsKeptBut [] s t ∧ ControlKept s t ∧ MemoryKept s t)) ∧
    (encode .ccf = [0x3F] ∧ Completes .ccf s 1 (fun t =>
      FlagsBecome s.fz false false (!s.fc) s t ∧ RegsKeptBut [] s t ∧ ControlKept s t ∧ MemoryKept s t))

/-! ### 16-bit arithmetic -/

/-- ADD HL,rr (R210), INC rr (R211) and DEC rr (R212): modulo 65536; ADD HL,rr keeps Z, clears N and takes H and C out
of bits 11 and 15; INC rr and DEC rr write no flag. -/
def Obligations.PairArithmetic : Prop :=
  ∀ (s : State) (p : Pair),
    let writesPair := fun (t : State) =>
      RegsKeptBut (pairRegs p) s t ∧ (p ≠ .sp → t.regs.sp = s.regs.sp) ∧ t.regs.f = s.regs.f ∧
        t.regs.pc = s.regs.pc ∧ LatchesKept s t ∧ MemoryKept s t
    (encode (.addHl p) = [BitVec.ofNat 8 (0x09 + 16 * p.field)] ∧
      Completes (.addHl p) s 2 (fun t =>
        let a := s.hl.toNat
        let b := (s.pair p).toNat
        t.hl.toNat = (a + b) % 65536 ∧
          FlagsBecome s.fz false (decide (a % 4096 + b % 4096 > 0xFFF)) (decide (a + b > 0xFFFF)) s t ∧
          RegsKeptBut [.h, .l] s t ∧ ControlKept s t ∧ MemoryKept s t)) ∧
    (encode (.incPair p) = [BitVec.ofNat 8 (0x03 + 16 * p.field)] ∧
      Completes (.incPair p) s 2 (fun t => (t.pair p).toNat = ((s.pair p).toNat + 1) % 65536 ∧ writesPair t)) ∧
    (encode (.decPair p) = [BitVec.ofNat 8 (0x0B + 16 * p.field)] ∧
      Completes (.decPair p) s 2 (fun t => (t.pair p).toNat = ((s.pair p).toNat + 65535) % 65536 ∧ writesPair t))

/-- ADD SP,e8 (R213) and LD HL,SP+e8 (R214): the signed byte added modulo 65536; Z and N clear, H and C the unsigned
carries out of bits 3 and 7 of the low bytes, whatever the sign. -/
def Obligations.SpSigned : Prop :=
  ∀ (s : State) (e : Byte),
    let sp := s.regs.sp.toNat
    let sum := ((sp : Int) + e.toInt) % 65536
    let flags := fun (t : State) =>
      FlagsBecome false false (decide (sp % 16 + e.toNat % 16 > 0xF)) (decide (sp % 256 + e.toNat > 0xFF)) s t
    (encode (.addSpE8 e) = [0xE8, e] ∧
      Completes (.addSpE8 e) s 4 (fun t =>
        (t.regs.sp.toNat : Int) = sum ∧ flags t ∧ RegsKeptBut [] s t ∧ t.regs.pc = s.regs.pc ∧
          LatchesKept s t ∧ MemoryKept s t)) ∧
    (encode (.ldHlSpE8 e) = [0xF8, e] ∧
      Completes (.ldHlSpE8 e) s 3 (fun t =>
        (t.hl.toNat : Int) = sum ∧ flags t ∧ RegsKeptBut [.h, .l] s t ∧ ControlKept s t ∧ MemoryKept s t))

/-! ### Rotates, shifts and bits -/

/-- RLCA (R220), RRCA (R221), RLA (R222) and RRA (R223): flags 0 0 0 C, Z clear even on a zero result. -/
def Obligations.RotateA : Prop :=
  ∀ s : State,
    let rotates := fun (op : RotOp) (t : State) =>
      t.regs.a.toNat = rotValue op s.regs.a.toNat s.fc.toNat ∧
        FlagsBecome false false false (rotBitOut op s.regs.a.toNat) s t ∧ RegsKeptBut [.a] s t ∧
        ControlKept s t ∧ MemoryKept s t
    (encode .rlca = [0x07] ∧ Completes .rlca s 1 (rotates .rlc)) ∧
    (encode .rrca = [0x0F] ∧ Completes .rrca s 1 (rotates .rrc)) ∧
    (encode .rla = [0x17] ∧ Completes .rla s 1 (rotates .rl)) ∧
    (encode .rra = [0x1F] ∧ Completes .rra s 1 (rotates .rr))

/-- The prefixed rotates RLC, RRC, RL, RR of a register and of (HL) (R224 to R231). -/
def Obligations.PrefixedRotates : Prop :=
  ∀ (s : State) (op : RotOp) (r : Reg8), op ∈ [.rlc, .rrc, .rl, .rr] →
    (encode (.rotReg op r) = [0xCB, BitVec.ofNat 8 (8 * op.field + r.field)] ∧
      Completes (.rotReg op r) s 2 (fun t =>
        RotatesTo op (s.reg r) (t.reg r) s t ∧ RegsKeptBut [r] s t ∧ ControlKept s t ∧
          MemoryKept s t)) ∧
    (encode (.rotHl op) = [0xCB, BitVec.ofNat 8 (8 * op.field + 6)] ∧
      Completes (.rotHl op) s 4 (fun t => ∃ res,
        RotatesTo op (s.peek s.hl) res s t ∧ RegsKeptBut [] s t ∧ ControlKept s t ∧
          Stores [(s.hl, res)] (s.afterRead s.hl) t))

/-- The prefixed shifts SLA, SRA, SWAP, SRL of a register and of (HL) (R232 to R239). -/
def Obligations.PrefixedShifts : Prop :=
  ∀ (s : State) (op : RotOp) (r : Reg8), op ∈ [.sla, .sra, .swap, .srl] →
    (encode (.rotReg op r) = [0xCB, BitVec.ofNat 8 (8 * op.field + r.field)] ∧
      Completes (.rotReg op r) s 2 (fun t =>
        RotatesTo op (s.reg r) (t.reg r) s t ∧ RegsKeptBut [r] s t ∧ ControlKept s t ∧
          MemoryKept s t)) ∧
    (encode (.rotHl op) = [0xCB, BitVec.ofNat 8 (8 * op.field + 6)] ∧
      Completes (.rotHl op) s 4 (fun t => ∃ res,
        RotatesTo op (s.peek s.hl) res s t ∧ RegsKeptBut [] s t ∧ ControlKept s t ∧
          Stores [(s.hl, res)] (s.afterRead s.hl) t))

/-- BIT (R240, R241), RES (R242, R243) and SET (R244, R245) of every bit of a register and of (HL): BIT writes Z, N
and H only; RES and SET write the one bit and no flag. -/
def Obligations.BitOperations : Prop :=
  ∀ (s : State) (b : BitIndex) (r : Reg8),
    let tests := fun (v : Byte) (t : State) =>
      FlagsBecome (!v.getLsbD (bitNumber b)) false true s.fc s t ∧ RegsKeptBut [] s t ∧ ControlKept s t
    (encode (.bitReg b r) = [0xCB, BitVec.ofNat 8 (0x40 + 8 * b.field + r.field)] ∧
      Completes (.bitReg b r) s 2 (fun t => tests (s.reg r) t ∧ MemoryKept s t)) ∧
    (encode (.bitHl b) = [0xCB, BitVec.ofNat 8 (0x46 + 8 * b.field)] ∧
      Completes (.bitHl b) s 3 (fun t => tests (s.peek s.hl) t ∧ Reads [s.hl] s t)) ∧
    (encode (.resReg b r) = [0xCB, BitVec.ofNat 8 (0x80 + 8 * b.field + r.field)] ∧
      Completes (.resReg b r) s 2 (fun t =>
        BitPut b false (s.reg r) (t.reg r) ∧ RegsKeptBut [r] s t ∧ t.regs.f = s.regs.f ∧ ControlKept s t ∧
          MemoryKept s t)) ∧
    (encode (.resHl b) = [0xCB, BitVec.ofNat 8 (0x86 + 8 * b.field)] ∧
      Completes (.resHl b) s 4 (fun t => ∃ res,
        BitPut b false (s.peek s.hl) res ∧ RegsKeptBut [] s t ∧ t.regs.f = s.regs.f ∧ ControlKept s t ∧
          Stores [(s.hl, res)] (s.afterRead s.hl) t)) ∧
    (encode (.setReg b r) = [0xCB, BitVec.ofNat 8 (0xC0 + 8 * b.field + r.field)] ∧
      Completes (.setReg b r) s 2 (fun t =>
        BitPut b true (s.reg r) (t.reg r) ∧ RegsKeptBut [r] s t ∧ t.regs.f = s.regs.f ∧ ControlKept s t ∧
          MemoryKept s t)) ∧
    (encode (.setHl b) = [0xCB, BitVec.ofNat 8 (0xC6 + 8 * b.field)] ∧
      Completes (.setHl b) s 4 (fun t => ∃ res,
        BitPut b true (s.peek s.hl) res ∧ RegsKeptBut [] s t ∧ t.regs.f = s.regs.f ∧ ControlKept s t ∧
          Stores [(s.hl, res)] (s.afterRead s.hl) t))

/-! ### Control transfer -/

/-- JP a16 (R251), JP cc,a16 (R252), JP HL (R253), JR e8 (R254) and JR cc,e8 (R255): where PC goes, and both costs of a
conditional jump. PC is already past the instruction's bytes. -/
def Obligations.Jumps : Prop :=
  ∀ (s : State) (cc : Cond) (a : Word) (e : Byte),
    let goes := fun (pc : Int) (t : State) =>
      (t.regs.pc.toNat : Int) = pc ∧ RegsKeptBut [] s t ∧ t.regs.f = s.regs.f ∧ t.regs.sp = s.regs.sp ∧
        LatchesKept s t ∧ MemoryKept s t
    let here : Int := s.regs.pc.toNat
    let there : Int := (s.regs.pc.toNat + e.toInt) % 65536
    (encode (.jpA16 a) = [0xC3, loByte a, hiByte a] ∧ Completes (.jpA16 a) s 4 (goes a.toNat)) ∧
    (encode (.jpCond cc a) = [BitVec.ofNat 8 (0xC2 + 8 * cc.field), loByte a, hiByte a] ∧
      (CondHolds s cc → Completes (.jpCond cc a) s 4 (goes a.toNat)) ∧
      (¬ CondHolds s cc → Completes (.jpCond cc a) s 3 (goes here))) ∧
    (encode .jpHl = [0xE9] ∧ Completes .jpHl s 1 (goes s.hl.toNat)) ∧
    (encode (.jrE8 e) = [0x18, e] ∧ Completes (.jrE8 e) s 3 (goes there)) ∧
    (encode (.jrCond cc e) = [BitVec.ofNat 8 (0x20 + 8 * cc.field), e] ∧
      (CondHolds s cc → Completes (.jrCond cc e) s 3 (goes there)) ∧
      (¬ CondHolds s cc → Completes (.jrCond cc e) s 2 (goes here)))

/-- CALL a16 (R256), CALL cc,a16 (R257) and RST (R261): the address of the next instruction pushed, high byte first, and
PC at the target; a call not taken pushes nothing. -/
def Obligations.Calls : Prop :=
  ∀ (s : State) (cc : Cond) (a : Word) (v : Vec),
    let enters := fun (pc : Word) (t : State) =>
      t.regs.pc = pc ∧ t.regs.sp = s.regs.sp - 2 ∧ RegsKeptBut [] s t ∧ t.regs.f = s.regs.f ∧ LatchesKept s t ∧
        Stores [(s.regs.sp - 1, hiByte s.regs.pc), (s.regs.sp - 2, loByte s.regs.pc)] s t
    (encode (.callA16 a) = [0xCD, loByte a, hiByte a] ∧ Completes (.callA16 a) s 6 (enters a)) ∧
    (encode (.callCond cc a) = [BitVec.ofNat 8 (0xC4 + 8 * cc.field), loByte a, hiByte a] ∧
      (CondHolds s cc → Completes (.callCond cc a) s 6 (enters a)) ∧
      (¬ CondHolds s cc → Completes (.callCond cc a) s 3 (fun t =>
        RegsKeptBut [] s t ∧ t.regs.f = s.regs.f ∧ ControlKept s t ∧ MemoryKept s t))) ∧
    (encode (.rst v) = [BitVec.ofNat 8 (0xC7 + 8 * v.field)] ∧
      Completes (.rst v) s 4 (enters (BitVec.ofNat 16 (8 * v.field))))

/-- RET (R258), RET cc (R259) and RETI (R260): PC popped, low byte first, SP on by 2 modulo 65536; RETI also sets IME; a
return not taken pops nothing. -/
def Obligations.Returns : Prop :=
  ∀ (s : State) (cc : Cond),
    let leaves := fun (ime : Bool) (t : State) =>
      t.regs.pc = mkWord ((s.afterRead s.regs.sp).peek (s.regs.sp + 1)) (s.peek s.regs.sp) ∧
        t.regs.sp = s.regs.sp + 2 ∧ RegsKeptBut [] s t ∧ t.regs.f = s.regs.f ∧ t.regs.ime = ime ∧
        t.regs.halted = s.regs.halted ∧ Reads [s.regs.sp, s.regs.sp + 1] s t
    (encode .ret = [0xC9] ∧ Completes .ret s 4 (leaves s.regs.ime)) ∧
    (encode (.retCond cc) = [BitVec.ofNat 8 (0xC0 + 8 * cc.field)] ∧
      (CondHolds s cc → Completes (.retCond cc) s 5 (leaves s.regs.ime)) ∧
      (¬ CondHolds s cc → Completes (.retCond cc) s 2 (fun t =>
        RegsKeptBut [] s t ∧ t.regs.f = s.regs.f ∧ ControlKept s t ∧ MemoryKept s t))) ∧
    (encode .reti = [0xD9] ∧ Completes .reti s 4 (leaves true))

/-! ### Miscellaneous and system -/

/-- NOP (R270), HALT (R271), STOP (R272), DI (R273) and EI (R274): NOP changes nothing; HALT and STOP set the halt latch
and return `Halted`; DI and EI write IME at once. That STOP acts as HALT is the spec's own decision D6, and that EI has
no delay is its own decision D7 (log entry 8). -/
def Obligations.SystemInstructions : Prop :=
  ∀ (s : State) (x : Byte),
    (encode .nop = [0x00] ∧ exec .nop s = .next { s with outcome := some (.cycles 1) }) ∧
    (encode .halt = [0x76] ∧ exec .halt s = .next { s with regs.halted := true, outcome := some .halted }) ∧
    (encode (.stop x) = [0x10, x] ∧
      exec (.stop x) s = .next { s with regs.halted := true, outcome := some .halted }) ∧
    (encode .di = [0xF3] ∧
      exec .di s = .next { s with regs.ime := false, outcome := some (.cycles 1) }) ∧
    (encode .ei = [0xFB] ∧ exec .ei s = .next { s with regs.ime := true, outcome := some (.cycles 1) })

/-! ### The graphics timer -/

/-- What an advance writes (R312) and the status synchronization at its end (R313): registers, address space, the
history and the other display registers kept; STAT bits 1 to 0 the mode, bit 2 the coincidence of LY and LYC, bits 7
to 3 kept; the clock below the threshold of the mode. -/
def Obligations.AdvanceScope : Prop :=
  ∀ (n : Nat) (s : State),
    let t := advance n s
    (t.regs = s.regs ∧ t.bus = s.bus ∧ t.ioHistory = s.ioHistory ∧ t.outcome = s.outcome ∧
      t.display.lcdc = s.display.lcdc ∧ t.display.scy = s.display.scy ∧ t.display.scx = s.display.scx ∧
      t.display.lyc = s.display.lyc ∧ t.display.bgp = s.display.bgp ∧ t.display.obp0 = s.display.obp0 ∧
      t.display.obp1 = s.display.obp1) ∧
    t.display.stat.toNat =
      8 * (s.display.stat.toNat / 8) + (if t.display.ly = t.display.lyc then 4 else 0) +
        (match t.display.mode with
        | .hblank => 0
        | .vblank => 1
        | .oamScan => 2
        | .pixelTransfer => 3) ∧
    t.display.modeClock <
      (match t.display.mode with
      | .oamScan => 80
      | .pixelTransfer => 172
      | .hblank => 204
      | .vblank => 456)

/-- The transition loop without fuel (R304, with R305 and R306): below the threshold an advance adds to the clock and
synchronizes; at or above it, it takes the threshold off, makes the one transition of the mode, and goes on with what is
left; it ends below the threshold. That LY moves on at the end of horizontal blank is the spec's own inference (R305,
derived there from the 456-unit property), and the frame count at the wrap is its decision D33 (log entry 8). -/
def Obligations.AdvanceLoop : Prop :=
  ∀ (n : Nat) (s : State),
    let clock := s.display.modeClock + n
    (clock < threshold s.display.mode → advance n s = syncStatus { s with display.modeClock := clock }) ∧
    (s.display.mode = .oamScan → 80 ≤ clock →
      advance n s =
        advance (clock - 80) { s with display.modeClock := 0, display.mode := .pixelTransfer }) ∧
    (s.display.mode = .pixelTransfer → 172 ≤ clock →
      advance n s =
        advance (clock - 172)
          { s with
            display.modeClock := 0
            display.mode := .hblank
            display.fb := rasterizeRow s s.display.ly.toNat 160 }) ∧
    (s.display.mode = .hblank → 204 ≤ clock →
      advance n s =
        advance (clock - 204)
          { s with
            display.modeClock := 0
            display.ly := s.display.ly + 1
            display.mode := if s.display.ly + 1 = 144 then .vblank else .oamScan }) ∧
    (s.display.mode = .vblank → s.display.ly = 153 → 456 ≤ clock →
      advance n s =
        advance (clock - 456)
          { s with
            display.modeClock := 0
            display.ly := 0
            display.mode := .oamScan
            display.frameCount := s.display.frameCount + 1 }) ∧
    (s.display.mode = .vblank → s.display.ly ≠ 153 → 456 ≤ clock →
      advance n s =
        advance (clock - 456) { s with display.modeClock := 0, display.ly := s.display.ly + 1 }) ∧
    (advance n s).display.modeClock < threshold (advance n s).display.mode

/-- Two advances are one advance by the sum of their counts. -/
def Obligations.AdvanceAdditive : Prop :=
  ∀ (m n : Nat) (s : State), advance m (advance n s) = advance (n + m) s

/-- The rasterizer (R308 to R310): the end of pixel transfer on a visible line writes exactly the 160 cells of the
line LY, each the shade that BGP gives the two plane bits of the tile the map names, at the scrolled position. -/
def Obligations.RasterizedLine : Prop :=
  ∀ (n : Nat) (s : State), s.display.mode = .pixelTransfer → s.display.ly.toNat < 144 →
    172 ≤ s.display.modeClock + n → s.display.modeClock + n < 172 + 204 →
    ∀ y x, y < 144 → x < 160 →
      let t := advance n s
      let vram := fun i => Memory.get s.bus.vram i
      let sy := y + s.display.scy.toNat
      let sx := x + s.display.scx.toNat
      let tile := (vram (0x1800 + 32 * (sy / 8 % 32) + sx / 8 % 32)).toNat
      let lo := (vram (16 * tile + 2 * (sy % 8))).toNat
      let hi := (vram (16 * tile + 2 * (sy % 8) + 1)).toNat
      let ci := 2 * (hi / 2 ^ (7 - sx % 8) % 2) + lo / 2 ^ (7 - sx % 8) % 2
      t.pixel y x =
        if y = s.display.ly.toNat then Config.shade (BitVec.ofNat 2 (s.display.bgp.toNat / 4 ^ ci))
        else s.pixel y x

/-- A visible line lasts 456 units (R305): from OAM scan an advance by 456 moves LY on by exactly 1, to OAM scan again
below line 144 and to vertical blank at it, with the same remainder on the clock. The place where LY moves on is the
spec's own inference (R305, log entry 8). -/
def Obligations.VisibleLine : Prop :=
  ∀ s : State, s.display.mode = .oamScan → s.display.ly.toNat < 144 → s.display.modeClock < 80 →
    let t := advance 456 s
    t.display.ly = s.display.ly + 1 ∧ t.display.modeClock = s.display.modeClock ∧
      t.display.frameCount = s.display.frameCount ∧
      t.display.mode = if s.display.ly.toNat = 143 then .vblank else .oamScan

/-- A frame lasts 154 times 456 units (R303, R306): from the top of a frame an advance by 70224 comes back to the same
line, mode and clock, one frame later, with every cell of the frame buffer the pixel of its line. The place where LY
moves on (R305) and the frame count (D33) are the spec's own (log entry 8). -/
def Obligations.WholeFrame : Prop :=
  ∀ s : State, s.display.mode = .oamScan → s.display.ly = 0 → s.display.modeClock < 80 →
    let t := advance 70224 s
    t.display.ly = 0 ∧ t.display.mode = .oamScan ∧ t.display.modeClock = s.display.modeClock ∧
      t.display.frameCount = s.display.frameCount + 1 ∧
      ∀ y x, y < 144 → x < 160 → t.pixel y x = Config.shade (pixelShade s y x)

/-- Palette and shades (R311): BGP gives a colour index its two bits as the shade number, and a cell's colour is the
`SHADE` of the number kept for it. The four colours are fixed greys: two cells have one colour exactly where they have
one shade number, each reads the same in the three channels, and the lower number is the lighter. The order and the
distinctness are the spec's decision D22 (log entry 8); that greys are told by three channels is the model's reading
(log entry 9). -/
def Obligations.PaletteAndShades : Prop :=
  (∀ (bgp : Byte) (ci : Nat), ci < 4 → (paletteShade bgp ci).toNat = bgp.toNat / 4 ^ ci % 4) ∧
  ∀ (s : State) (y x y' x' : Nat),
    let a := Memory.get s.display.fb (fbKey y x)
    let b := Memory.get s.display.fb (fbKey y' x')
    let g := Config.greyScale
    s.pixel y x = Config.shade a ∧
    (s.pixel y x = s.pixel y' x' ↔ a = b) ∧
    (g.red (s.pixel y x) = g.green (s.pixel y x) ∧ g.green (s.pixel y x) = g.blue (s.pixel y x)) ∧
    (g.red (s.pixel y x) < g.red (s.pixel y' x') ↔ b < a)
end

