-- ==== Sys2Proof/Laws/Memory.lean ====
section
/-! SUPPORT. Laws of one sparse store: a read after a write, the canonical form and the bound of the keys that every
operation keeps, equal contents are equal lists, and the store that holds a given content. -/

namespace Sys2Proof.Machine

variable {w : Nat}

/-! ### Reads -/

theorem Memory.get_eq_zero_of_forall_ne {m : Cells w} {a : Nat} (h : ∀ c ∈ m, c.1 ≠ a) : Memory.get m a = 0 := by
  induction m with
  | nil => rfl
  | cons c m ih =>
    simp only [List.mem_cons, forall_eq_or_imp] at h
    rw [Memory.get, if_neg h.1, ih h.2]

theorem Memory.get_erase (m : Cells w) (a b : Nat) :
    Memory.get (Memory.erase m a) b = if b = a then 0 else Memory.get m b := by
  induction m with
  | nil => simp [Memory.erase, Memory.get]
  | cons c m ih =>
    unfold Memory.erase at ih ⊢
    by_cases hc : c.1 = a
    · rw [List.filter_cons_of_neg (by simp [hc]), ih]
      by_cases hb : b = a
      · rw [if_pos hb, if_pos hb]
      · rw [if_neg hb, if_neg hb, Memory.get, if_neg (by omega)]
    · rw [List.filter_cons_of_pos (by simp [hc]), Memory.get, ih, Memory.get]
      by_cases hcb : c.1 = b
      · rw [if_pos hcb, if_pos hcb, if_neg (by omega)]
      · rw [if_neg hcb, if_neg hcb]

theorem Memory.get_insert {m : Cells w} {a : Nat} (h : ∀ c ∈ m, c.1 ≠ a) (v : BitVec w) (b : Nat) :
    Memory.get (Memory.insert m a v) b = if b = a then v else Memory.get m b := by
  induction m with
  | nil => simp [Memory.insert, Memory.get, eq_comm]
  | cons c m ih =>
    simp only [List.mem_cons, forall_eq_or_imp] at h
    obtain ⟨k, x⟩ := c
    simp only [Memory.insert]
    by_cases hak : a < k
    · rw [if_pos hak, Memory.get]
      simp only [eq_comm]
    · rw [if_neg hak, Memory.get, ih h.2, Memory.get]
      have : k ≠ a := h.1
      by_cases hkb : k = b
      · rw [if_pos hkb, if_pos hkb, if_neg (by omega)]
      · rw [if_neg hkb, if_neg hkb]

theorem Memory.erase_keys (m : Cells w) (a : Nat) : ∀ c ∈ Memory.erase m a, c.1 ≠ a := by
  intro c hc
  simpa using (List.mem_filter.1 hc).2

/-- A read after a write: the value written at its key, every other key as before. -/
theorem Memory.get_set (m : Cells w) (a : Nat) (v : BitVec w) (b : Nat) :
    Memory.get (Memory.set m a v) b = if b = a then v else Memory.get m b := by
  unfold Memory.set
  split
  · next h => rw [Memory.get_erase, h]
  · rw [Memory.get_insert (Memory.erase_keys m a), Memory.get_erase]
    split <;> rfl

@[simp] theorem Memory.get_set_same (m : Cells w) (a : Nat) (v : BitVec w) :
    Memory.get (Memory.set m a v) a = v := by
  rw [Memory.get_set, if_pos rfl]

theorem Memory.get_set_other (m : Cells w) {a b : Nat} (v : BitVec w) (h : b ≠ a) :
    Memory.get (Memory.set m a v) b = Memory.get m b := by
  rw [Memory.get_set, if_neg h]

/-! ### The canonical form -/

theorem Memory.wf_cons {c : Nat × BitVec w} {m : Cells w} :
    Memory.wf (c :: m) = true ↔ c.2 ≠ 0 ∧ (∀ d ∈ m, c.1 < d.1) ∧ Memory.wf m = true := by
  simp [Memory.wf, and_assoc]

theorem Memory.wf_erase {m : Cells w} (h : Memory.wf m = true) (a : Nat) : Memory.wf (Memory.erase m a) = true := by
  induction m with
  | nil => rfl
  | cons c m ih =>
    rw [Memory.wf_cons] at h
    unfold Memory.erase at ih ⊢
    by_cases hc : c.1 = a
    · rw [List.filter_cons_of_neg (by simp [hc])]
      exact ih h.2.2
    · rw [List.filter_cons_of_pos (by simp [hc]), Memory.wf_cons]
      exact ⟨h.1, fun d hd => h.2.1 d (List.mem_filter.1 hd).1, ih h.2.2⟩

theorem Memory.mem_insert {m : Cells w} {a : Nat} {v : BitVec w} {c : Nat × BitVec w}
    (h : c ∈ Memory.insert m a v) : c = (a, v) ∨ c ∈ m := by
  induction m with
  | nil => simpa [Memory.insert] using h
  | cons d m ih =>
    simp only [Memory.insert] at h
    split at h
    · simpa using h
    · rcases List.mem_cons.1 h with rfl | h
      · exact Or.inr (List.mem_cons_self ..)
      · exact (ih h).imp id (List.mem_cons_of_mem _)

theorem Memory.wf_insert {m : Cells w} {a : Nat} {v : BitVec w} (hm : Memory.wf m = true) (hv : v ≠ 0)
    (h : ∀ c ∈ m, c.1 ≠ a) : Memory.wf (Memory.insert m a v) = true := by
  induction m with
  | nil => exact Memory.wf_cons.2 ⟨hv, fun d hd => absurd hd (List.not_mem_nil), rfl⟩
  | cons c m ih =>
    have hc := Memory.wf_cons.1 hm
    have hne : c.1 ≠ a := h c (List.mem_cons_self ..)
    simp only [Memory.insert]
    split
    · next hlt =>
      rw [Memory.wf_cons]
      refine ⟨hv, fun d hd => ?_, hm⟩
      rcases List.mem_cons.1 hd with rfl | hd
      · exact hlt
      · exact Nat.lt_trans hlt (hc.2.1 d hd)
    · next hge =>
      rw [Memory.wf_cons]
      refine ⟨hc.1, fun d hd => ?_, ih hc.2.2 fun d hd => h d (List.mem_cons_of_mem _ hd)⟩
      rcases Memory.mem_insert hd with rfl | hd
      · show c.1 < a
        omega
      · exact hc.2.1 d hd

/-- A write keeps the canonical form. -/
theorem Memory.wf_set {m : Cells w} (h : Memory.wf m = true) (a : Nat) (v : BitVec w) :
    Memory.wf (Memory.set m a v) = true := by
  unfold Memory.set
  split
  · exact Memory.wf_erase h a
  · next hv => exact Memory.wf_insert (Memory.wf_erase h a) hv (Memory.erase_keys m a)

/-- A write below the bound keeps every key below it. -/
theorem Memory.below_set {m : Cells w} {size a : Nat} (h : Memory.below size m = true) (ha : a < size)
    (v : BitVec w) : Memory.below size (Memory.set m a v) = true := by
  simp only [Memory.below, List.all_eq_true, decide_eq_true_eq] at h ⊢
  intro c hc
  unfold Memory.set at hc
  split at hc
  · exact h c (List.mem_filter.1 hc).1
  · rcases Memory.mem_insert hc with rfl | hc
    · exact ha
    · exact h c (List.mem_filter.1 hc).1

/-! ### Equal contents -/

theorem Memory.get_lt_head {m : Cells w} {a : Nat} (h : ∀ c ∈ m, a < c.1) : Memory.get m a = 0 :=
  Memory.get_eq_zero_of_forall_ne fun c hc => Nat.ne_of_gt (h c hc)

theorem Memory.get_head (k : Nat) (v : BitVec w) (m : Cells w) : Memory.get ((k, v) :: m) k = v := by
  rw [Memory.get, if_pos rfl]

theorem Memory.get_tail {k a : Nat} (v : BitVec w) (m : Cells w) (h : k ≠ a) :
    Memory.get ((k, v) :: m) a = Memory.get m a := by
  rw [Memory.get, if_neg h]

/-- Canonical stores that read the same everywhere are the same list. -/
theorem Memory.ext {m n : Cells w} (hm : Memory.wf m = true) (hn : Memory.wf n = true)
    (h : ∀ a, Memory.get m a = Memory.get n a) : m = n := by
  induction m generalizing n with
  | nil =>
    cases n with
    | nil => rfl
    | cons d n =>
      have h1 := h d.1
      rw [Memory.get_head d.1 d.2 n] at h1
      exact absurd h1.symm (Memory.wf_cons.1 hn).1
  | cons c m ih =>
    obtain ⟨k, x⟩ := c
    have hc := Memory.wf_cons.1 hm
    cases n with
    | nil =>
      have h1 := h k
      rw [Memory.get_head] at h1
      exact absurd h1 hc.1
    | cons d n =>
      obtain ⟨j, y⟩ := d
      have hd := Memory.wf_cons.1 hn
      have hkj : k = j := by
        rcases Nat.lt_trichotomy k j with hlt | heq | hgt
        · have h1 := h k
          rw [Memory.get_head, Memory.get_tail y n (Nat.ne_of_gt hlt),
            Memory.get_lt_head fun e he => Nat.lt_trans hlt (hd.2.1 e he)] at h1
          exact absurd h1 hc.1
        · exact heq
        · have h1 := h j
          rw [Memory.get_head, Memory.get_tail x m (Nat.ne_of_gt hgt),
            Memory.get_lt_head fun e he => Nat.lt_trans hgt (hc.2.1 e he)] at h1
          exact absurd h1.symm hd.1
      subst hkj
      have hxy : x = y := by simpa [Memory.get_head] using h k
      subst hxy
      rw [ih hc.2.2 hd.2.2 fun a => ?_]
      by_cases hka : k = a
      · subst hka
        rw [Memory.get_lt_head hc.2.1, Memory.get_lt_head hd.2.1]
      · simpa [Memory.get_tail x _ hka] using h a

/-! ### The store that holds a given content -/

theorem Memory.ofFnFrom_keys (f : Nat → BitVec w) (n i : Nat) :
    ∀ c ∈ Memory.ofFnFrom f n i, i ≤ c.1 ∧ c.1 < i + n := by
  induction n generalizing i with
  | zero => simp [Memory.ofFnFrom]
  | succ n ih =>
    intro c hc
    simp only [Memory.ofFnFrom] at hc
    split at hc
    · have := ih (i + 1) c hc
      omega
    · rcases List.mem_cons.1 hc with rfl | hc
      · show i ≤ i ∧ i < i + (n + 1)
        omega
      · have := ih (i + 1) c hc
        omega

theorem Memory.get_ofFnFrom (f : Nat → BitVec w) (n i a : Nat) :
    Memory.get (Memory.ofFnFrom f n i) a = if i ≤ a ∧ a < i + n then f a else 0 := by
  induction n generalizing i with
  | zero => simp [Memory.ofFnFrom, Memory.get, show ¬(i ≤ a ∧ a < i) by omega]
  | succ n ih =>
    simp only [Memory.ofFnFrom]
    by_cases hia : i = a
    · subst hia
      rw [if_pos (show i ≤ i ∧ i < i + (n + 1) by omega)]
      split
      · next hf => rw [ih, if_neg (by omega), hf]
      · rw [Memory.get_head]
    · have hiff : (i + 1 ≤ a ∧ a < i + 1 + n) ↔ (i ≤ a ∧ a < i + (n + 1)) := by omega
      split
      · rw [ih, if_congr hiff rfl rfl]
      · rw [Memory.get_tail _ _ hia, ih, if_congr hiff rfl rfl]

/-- Cell `a` of the store holds `f a`, below its size. -/
theorem Memory.get_ofFn (n : Nat) (f : Nat → BitVec w) (a : Nat) :
    Memory.get (Memory.ofFn n f) a = if a < n then f a else 0 := by
  rw [Memory.ofFn, Memory.get_ofFnFrom]
  simp

theorem Memory.wf_ofFnFrom (f : Nat → BitVec w) (n i : Nat) : Memory.wf (Memory.ofFnFrom f n i) = true := by
  induction n generalizing i with
  | zero => rfl
  | succ n ih =>
    simp only [Memory.ofFnFrom]
    split
    · exact ih (i + 1)
    · next hf => exact Memory.wf_cons.2 ⟨hf, fun c hc => (Memory.ofFnFrom_keys f n (i + 1) c hc).1, ih (i + 1)⟩

theorem Memory.wf_ofFn (n : Nat) (f : Nat → BitVec w) : Memory.wf (Memory.ofFn n f) = true :=
  Memory.wf_ofFnFrom f n 0

theorem Memory.below_ofFn (n : Nat) (f : Nat → BitVec w) : Memory.below n (Memory.ofFn n f) = true := by
  simp only [Memory.below, List.all_eq_true, decide_eq_true_eq]
  intro c hc
  have := (Memory.ofFnFrom_keys f n 0 c hc).2
  omega

theorem Memory.ofFn_zero (n : Nat) (f : Nat → BitVec w) (h : ∀ i, f i = 0) : Memory.ofFn n f = [] :=
  Memory.ext (Memory.wf_ofFn n f) rfl fun a => by
    rw [Memory.get_ofFn, h]
    simp [Memory.get]

end Sys2Proof.Machine
end

