-- ==== Sys2Proof/Laws/Bits.lean ====
section
/-! SUPPORT. Laws of the bit fields and the byte order: a put bit reads back and leaves the others, and a word is its two
bytes. -/

namespace Sys2Proof.Machine

/-- The bit that was put reads back. -/
theorem putBit_getLsbD_same (v : Byte) (i : Nat) (b : Bool) (hi : i < 8) : (putBit v i b).getLsbD i = b := by
  cases b <;> simp [putBit, hi]

/-- Every other bit is kept (10_state.md R24). -/
theorem putBit_getLsbD_other (v : Byte) (i j : Nat) (b : Bool) (hj : j < 8) (hij : j ≠ i) :
    (putBit v i b).getLsbD j = v.getLsbD j := by
  cases b <;> simp [putBit, hj] <;> omega

/-- A put of one of bits 7 to 4 keeps the low nibble (10_state.md R25). -/
theorem putBit_low (v : Byte) (i : Nat) (b : Bool) (hi : i < 8) (h4 : 4 ≤ i) :
    putBit v i b &&& 0x0F = v &&& 0x0F := by
  apply BitVec.eq_of_getLsbD_eq
  intro j hj
  by_cases hji : j = i
  · subst hji
    have : (0x0F : Byte).getLsbD j = false := by
      rcases (by omega : j = 4 ∨ j = 5 ∨ j = 6 ∨ j = 7) with rfl | rfl | rfl | rfl <;> rfl
    rw [BitVec.getLsbD_and, BitVec.getLsbD_and, this, Bool.and_false, Bool.and_false]
  · rw [BitVec.getLsbD_and, BitVec.getLsbD_and, putBit_getLsbD_other v i j b hj hji]

/-- The value of a word made of two bytes. -/
theorem mkWord_toNat (hi lo : Byte) : (mkWord hi lo).toNat = 256 * hi.toNat + lo.toNat := by
  unfold mkWord
  rw [BitVec.toNat_append, Nat.shiftLeft_eq, Nat.mul_comm, ← Nat.two_pow_add_eq_or_of_lt lo.isLt]

theorem hiByte_toNat (w : Word) : (hiByte w).toNat = w.toNat / 256 := by
  have := w.isLt
  simp [hiByte, Nat.shiftRight_eq_div_pow]
  omega

theorem loByte_toNat (w : Word) : (loByte w).toNat = w.toNat % 256 := by
  simp [loByte]

/-- A word is made of its two bytes (00_scope.md R10). -/
@[simp] theorem mkWord_halves (w : Word) : mkWord (hiByte w) (loByte w) = w := by
  apply BitVec.eq_of_toNat_eq
  rw [mkWord_toNat, hiByte_toNat, loByte_toNat]
  omega

@[simp] theorem hiByte_mkWord (hi lo : Byte) : hiByte (mkWord hi lo) = hi := by
  apply BitVec.eq_of_toNat_eq
  have := lo.isLt
  rw [hiByte_toNat, mkWord_toNat]
  omega

@[simp] theorem loByte_mkWord (hi lo : Byte) : loByte (mkWord hi lo) = lo := by
  apply BitVec.eq_of_toNat_eq
  have := lo.isLt
  rw [loByte_toNat, mkWord_toNat]
  omega

end Sys2Proof.Machine
end

