-- ==== Sys2Proof/Laws/State.lean ====
section
/-! SUPPORT. What each update of the state does to each field, so that no later proof unfolds a record update. -/

namespace Sys2Proof.Machine

/-! ### Fields and registers -/


/-! #### `setPc` -/

@[simp] theorem State.setPc_bus (s : State) (w : Word) : (s.setPc w).bus = s.bus := rfl
@[simp] theorem State.setPc_display (s : State) (w : Word) : (s.setPc w).display = s.display := rfl
@[simp] theorem State.setPc_ioHistory (s : State) (w : Word) : (s.setPc w).ioHistory = s.ioHistory := rfl
@[simp] theorem State.setPc_outcome (s : State) (w : Word) : (s.setPc w).outcome = s.outcome := rfl
@[simp] theorem State.setPc_ime (s : State) (w : Word) : (s.setPc w).regs.ime = s.regs.ime := rfl
@[simp] theorem State.setPc_halted (s : State) (w : Word) : (s.setPc w).regs.halted = s.regs.halted := rfl
@[simp] theorem State.setPc_pc (s : State) (w : Word) : (s.setPc w).regs.pc = w := rfl
@[simp] theorem State.setPc_sp (s : State) (w : Word) : (s.setPc w).regs.sp = s.regs.sp := rfl
@[simp] theorem State.setPc_f (s : State) (w : Word) : (s.setPc w).regs.f = s.regs.f := rfl
@[simp] theorem State.setPc_a (s : State) (w : Word) : (s.setPc w).regs.a = s.regs.a := rfl
@[simp] theorem State.setPc_reg (s : State) (w : Word) (q : Reg8) : (s.setPc w).reg q = s.reg q := by
  cases q <;> rfl

/-! #### `setSp` -/

@[simp] theorem State.setSp_bus (s : State) (w : Word) : (s.setSp w).bus = s.bus := rfl
@[simp] theorem State.setSp_display (s : State) (w : Word) : (s.setSp w).display = s.display := rfl
@[simp] theorem State.setSp_ioHistory (s : State) (w : Word) : (s.setSp w).ioHistory = s.ioHistory := rfl
@[simp] theorem State.setSp_outcome (s : State) (w : Word) : (s.setSp w).outcome = s.outcome := rfl
@[simp] theorem State.setSp_ime (s : State) (w : Word) : (s.setSp w).regs.ime = s.regs.ime := rfl
@[simp] theorem State.setSp_halted (s : State) (w : Word) : (s.setSp w).regs.halted = s.regs.halted := rfl
@[simp] theorem State.setSp_pc (s : State) (w : Word) : (s.setSp w).regs.pc = s.regs.pc := rfl
@[simp] theorem State.setSp_sp (s : State) (w : Word) : (s.setSp w).regs.sp = w := rfl
@[simp] theorem State.setSp_f (s : State) (w : Word) : (s.setSp w).regs.f = s.regs.f := rfl
@[simp] theorem State.setSp_a (s : State) (w : Word) : (s.setSp w).regs.a = s.regs.a := rfl
@[simp] theorem State.setSp_reg (s : State) (w : Word) (q : Reg8) : (s.setSp w).reg q = s.reg q := by
  cases q <;> rfl

/-! #### `setFz` -/

@[simp] theorem State.setFz_bus (s : State) (b : Bool) : (s.setFz b).bus = s.bus := rfl
@[simp] theorem State.setFz_display (s : State) (b : Bool) : (s.setFz b).display = s.display := rfl
@[simp] theorem State.setFz_ioHistory (s : State) (b : Bool) : (s.setFz b).ioHistory = s.ioHistory := rfl
@[simp] theorem State.setFz_outcome (s : State) (b : Bool) : (s.setFz b).outcome = s.outcome := rfl
@[simp] theorem State.setFz_ime (s : State) (b : Bool) : (s.setFz b).regs.ime = s.regs.ime := rfl
@[simp] theorem State.setFz_halted (s : State) (b : Bool) : (s.setFz b).regs.halted = s.regs.halted := rfl
@[simp] theorem State.setFz_pc (s : State) (b : Bool) : (s.setFz b).regs.pc = s.regs.pc := rfl
@[simp] theorem State.setFz_sp (s : State) (b : Bool) : (s.setFz b).regs.sp = s.regs.sp := rfl
@[simp] theorem State.setFz_f (s : State) (b : Bool) : (s.setFz b).regs.f = putBit s.regs.f 7 b := rfl
@[simp] theorem State.setFz_a (s : State) (b : Bool) : (s.setFz b).regs.a = s.regs.a := rfl
@[simp] theorem State.setFz_reg (s : State) (b : Bool) (q : Reg8) : (s.setFz b).reg q = s.reg q := by
  cases q <;> rfl

/-! #### `setFn` -/

@[simp] theorem State.setFn_bus (s : State) (b : Bool) : (s.setFn b).bus = s.bus := rfl
@[simp] theorem State.setFn_display (s : State) (b : Bool) : (s.setFn b).display = s.display := rfl
@[simp] theorem State.setFn_ioHistory (s : State) (b : Bool) : (s.setFn b).ioHistory = s.ioHistory := rfl
@[simp] theorem State.setFn_outcome (s : State) (b : Bool) : (s.setFn b).outcome = s.outcome := rfl
@[simp] theorem State.setFn_ime (s : State) (b : Bool) : (s.setFn b).regs.ime = s.regs.ime := rfl
@[simp] theorem State.setFn_halted (s : State) (b : Bool) : (s.setFn b).regs.halted = s.regs.halted := rfl
@[simp] theorem State.setFn_pc (s : State) (b : Bool) : (s.setFn b).regs.pc = s.regs.pc := rfl
@[simp] theorem State.setFn_sp (s : State) (b : Bool) : (s.setFn b).regs.sp = s.regs.sp := rfl
@[simp] theorem State.setFn_f (s : State) (b : Bool) : (s.setFn b).regs.f = putBit s.regs.f 6 b := rfl
@[simp] theorem State.setFn_a (s : State) (b : Bool) : (s.setFn b).regs.a = s.regs.a := rfl
@[simp] theorem State.setFn_reg (s : State) (b : Bool) (q : Reg8) : (s.setFn b).reg q = s.reg q := by
  cases q <;> rfl

/-! #### `setFh` -/

@[simp] theorem State.setFh_bus (s : State) (b : Bool) : (s.setFh b).bus = s.bus := rfl
@[simp] theorem State.setFh_display (s : State) (b : Bool) : (s.setFh b).display = s.display := rfl
@[simp] theorem State.setFh_ioHistory (s : State) (b : Bool) : (s.setFh b).ioHistory = s.ioHistory := rfl
@[simp] theorem State.setFh_outcome (s : State) (b : Bool) : (s.setFh b).outcome = s.outcome := rfl
@[simp] theorem State.setFh_ime (s : State) (b : Bool) : (s.setFh b).regs.ime = s.regs.ime := rfl
@[simp] theorem State.setFh_halted (s : State) (b : Bool) : (s.setFh b).regs.halted = s.regs.halted := rfl
@[simp] theorem State.setFh_pc (s : State) (b : Bool) : (s.setFh b).regs.pc = s.regs.pc := rfl
@[simp] theorem State.setFh_sp (s : State) (b : Bool) : (s.setFh b).regs.sp = s.regs.sp := rfl
@[simp] theorem State.setFh_f (s : State) (b : Bool) : (s.setFh b).regs.f = putBit s.regs.f 5 b := rfl
@[simp] theorem State.setFh_a (s : State) (b : Bool) : (s.setFh b).regs.a = s.regs.a := rfl
@[simp] theorem State.setFh_reg (s : State) (b : Bool) (q : Reg8) : (s.setFh b).reg q = s.reg q := by
  cases q <;> rfl

/-! #### `setFc` -/

@[simp] theorem State.setFc_bus (s : State) (b : Bool) : (s.setFc b).bus = s.bus := rfl
@[simp] theorem State.setFc_display (s : State) (b : Bool) : (s.setFc b).display = s.display := rfl
@[simp] theorem State.setFc_ioHistory (s : State) (b : Bool) : (s.setFc b).ioHistory = s.ioHistory := rfl
@[simp] theorem State.setFc_outcome (s : State) (b : Bool) : (s.setFc b).outcome = s.outcome := rfl
@[simp] theorem State.setFc_ime (s : State) (b : Bool) : (s.setFc b).regs.ime = s.regs.ime := rfl
@[simp] theorem State.setFc_halted (s : State) (b : Bool) : (s.setFc b).regs.halted = s.regs.halted := rfl
@[simp] theorem State.setFc_pc (s : State) (b : Bool) : (s.setFc b).regs.pc = s.regs.pc := rfl
@[simp] theorem State.setFc_sp (s : State) (b : Bool) : (s.setFc b).regs.sp = s.regs.sp := rfl
@[simp] theorem State.setFc_f (s : State) (b : Bool) : (s.setFc b).regs.f = putBit s.regs.f 4 b := rfl
@[simp] theorem State.setFc_a (s : State) (b : Bool) : (s.setFc b).regs.a = s.regs.a := rfl
@[simp] theorem State.setFc_reg (s : State) (b : Bool) (q : Reg8) : (s.setFc b).reg q = s.reg q := by
  cases q <;> rfl

/-! #### `setFlags` -/

@[simp] theorem State.setFlags_bus (s : State) (z n h c : Bool) : (s.setFlags z n h c).bus = s.bus := rfl
@[simp] theorem State.setFlags_display (s : State) (z n h c : Bool) : (s.setFlags z n h c).display = s.display := rfl
@[simp] theorem State.setFlags_ioHistory (s : State) (z n h c : Bool) : (s.setFlags z n h c).ioHistory = s.ioHistory := rfl
@[simp] theorem State.setFlags_outcome (s : State) (z n h c : Bool) : (s.setFlags z n h c).outcome = s.outcome := rfl
@[simp] theorem State.setFlags_ime (s : State) (z n h c : Bool) : (s.setFlags z n h c).regs.ime = s.regs.ime := rfl
@[simp] theorem State.setFlags_halted (s : State) (z n h c : Bool) : (s.setFlags z n h c).regs.halted = s.regs.halted := rfl
@[simp] theorem State.setFlags_pc (s : State) (z n h c : Bool) : (s.setFlags z n h c).regs.pc = s.regs.pc := rfl
@[simp] theorem State.setFlags_sp (s : State) (z n h c : Bool) : (s.setFlags z n h c).regs.sp = s.regs.sp := rfl
@[simp] theorem State.setFlags_f (s : State) (z n h c : Bool) : (s.setFlags z n h c).regs.f = putBit (putBit (putBit (putBit s.regs.f 7 z) 6 n) 5 h) 4 c := rfl
@[simp] theorem State.setFlags_a (s : State) (z n h c : Bool) : (s.setFlags z n h c).regs.a = s.regs.a := rfl
@[simp] theorem State.setFlags_reg (s : State) (z n h c : Bool) (q : Reg8) : (s.setFlags z n h c).reg q = s.reg q := by
  cases q <;> rfl

/-! #### `setReg` -/

@[simp] theorem State.setReg_bus (s : State) (r : Reg8) (v : Byte) : (s.setReg r v).bus = s.bus := by cases r <;> rfl
@[simp] theorem State.setReg_display (s : State) (r : Reg8) (v : Byte) : (s.setReg r v).display = s.display := by cases r <;> rfl
@[simp] theorem State.setReg_ioHistory (s : State) (r : Reg8) (v : Byte) : (s.setReg r v).ioHistory = s.ioHistory := by cases r <;> rfl
@[simp] theorem State.setReg_outcome (s : State) (r : Reg8) (v : Byte) : (s.setReg r v).outcome = s.outcome := by cases r <;> rfl
@[simp] theorem State.setReg_ime (s : State) (r : Reg8) (v : Byte) : (s.setReg r v).regs.ime = s.regs.ime := by cases r <;> rfl
@[simp] theorem State.setReg_halted (s : State) (r : Reg8) (v : Byte) : (s.setReg r v).regs.halted = s.regs.halted := by cases r <;> rfl
@[simp] theorem State.setReg_pc (s : State) (r : Reg8) (v : Byte) : (s.setReg r v).regs.pc = s.regs.pc := by cases r <;> rfl
@[simp] theorem State.setReg_sp (s : State) (r : Reg8) (v : Byte) : (s.setReg r v).regs.sp = s.regs.sp := by cases r <;> rfl
@[simp] theorem State.setReg_f (s : State) (r : Reg8) (v : Byte) : (s.setReg r v).regs.f = s.regs.f := by cases r <;> rfl
@[simp] theorem State.setReg_reg (s : State) (r : Reg8) (v : Byte) (q : Reg8) :
    (s.setReg r v).reg q = if q = r then v else s.reg q := by
  cases r <;> cases q <;> rfl

/-! #### `setF` -/

@[simp] theorem State.setF_bus (s : State) (v : Byte) : (s.setF v).bus = s.bus := rfl
@[simp] theorem State.setF_display (s : State) (v : Byte) : (s.setF v).display = s.display := rfl
@[simp] theorem State.setF_ioHistory (s : State) (v : Byte) : (s.setF v).ioHistory = s.ioHistory := rfl
@[simp] theorem State.setF_outcome (s : State) (v : Byte) : (s.setF v).outcome = s.outcome := rfl
@[simp] theorem State.setF_ime (s : State) (v : Byte) : (s.setF v).regs.ime = s.regs.ime := rfl
@[simp] theorem State.setF_halted (s : State) (v : Byte) : (s.setF v).regs.halted = s.regs.halted := rfl
@[simp] theorem State.setF_pc (s : State) (v : Byte) : (s.setF v).regs.pc = s.regs.pc := rfl
@[simp] theorem State.setF_sp (s : State) (v : Byte) : (s.setF v).regs.sp = s.regs.sp := rfl
@[simp] theorem State.setF_f (s : State) (v : Byte) : (s.setF v).regs.f = v &&& 0xF0 := rfl
@[simp] theorem State.setF_reg (s : State) (v : Byte) (q : Reg8) : (s.setF v).reg q = s.reg q := by
  cases q <;> rfl

/-! #### `setHl` -/

@[simp] theorem State.setHl_bus (s : State) (w : Word) : (s.setHl w).bus = s.bus := rfl
@[simp] theorem State.setHl_display (s : State) (w : Word) : (s.setHl w).display = s.display := rfl
@[simp] theorem State.setHl_ioHistory (s : State) (w : Word) : (s.setHl w).ioHistory = s.ioHistory := rfl
@[simp] theorem State.setHl_outcome (s : State) (w : Word) : (s.setHl w).outcome = s.outcome := rfl
@[simp] theorem State.setHl_ime (s : State) (w : Word) : (s.setHl w).regs.ime = s.regs.ime := rfl
@[simp] theorem State.setHl_halted (s : State) (w : Word) : (s.setHl w).regs.halted = s.regs.halted := rfl
@[simp] theorem State.setHl_pc (s : State) (w : Word) : (s.setHl w).regs.pc = s.regs.pc := rfl
@[simp] theorem State.setHl_sp (s : State) (w : Word) : (s.setHl w).regs.sp = s.regs.sp := rfl
@[simp] theorem State.setHl_f (s : State) (w : Word) : (s.setHl w).regs.f = s.regs.f := rfl
@[simp] theorem State.setHl_reg (s : State) (w : Word) (q : Reg8) :
    (s.setHl w).reg q = if q = .l then loByte w else if q = .h then hiByte w else s.reg q := by
  cases q <;> rfl

/-! #### `setPair` -/

@[simp] theorem State.setPair_bus (s : State) (p : Pair) (w : Word) : (s.setPair p w).bus = s.bus := by cases p <;> rfl
@[simp] theorem State.setPair_display (s : State) (p : Pair) (w : Word) : (s.setPair p w).display = s.display := by cases p <;> rfl
@[simp] theorem State.setPair_ioHistory (s : State) (p : Pair) (w : Word) : (s.setPair p w).ioHistory = s.ioHistory := by cases p <;> rfl
@[simp] theorem State.setPair_outcome (s : State) (p : Pair) (w : Word) : (s.setPair p w).outcome = s.outcome := by cases p <;> rfl
@[simp] theorem State.setPair_ime (s : State) (p : Pair) (w : Word) : (s.setPair p w).regs.ime = s.regs.ime := by cases p <;> rfl
@[simp] theorem State.setPair_halted (s : State) (p : Pair) (w : Word) : (s.setPair p w).regs.halted = s.regs.halted := by cases p <;> rfl
@[simp] theorem State.setPair_pc (s : State) (p : Pair) (w : Word) : (s.setPair p w).regs.pc = s.regs.pc := by cases p <;> rfl
@[simp] theorem State.setPair_sp (s : State) (p : Pair) (w : Word) : (s.setPair p w).regs.sp = if p = .sp then w else s.regs.sp := by cases p <;> rfl
@[simp] theorem State.setPair_f (s : State) (p : Pair) (w : Word) : (s.setPair p w).regs.f = s.regs.f := by cases p <;> rfl
@[simp] theorem State.setPair_bc_reg (s : State) (w : Word) (q : Reg8) :
    (s.setPair .bc w).reg q = if q = .c then loByte w else if q = .b then hiByte w else s.reg q := by
  cases q <;> rfl
@[simp] theorem State.setPair_de_reg (s : State) (w : Word) (q : Reg8) :
    (s.setPair .de w).reg q = if q = .e then loByte w else if q = .d then hiByte w else s.reg q := by
  cases q <;> rfl
@[simp] theorem State.setPair_hl_reg (s : State) (w : Word) (q : Reg8) :
    (s.setPair .hl w).reg q = if q = .l then loByte w else if q = .h then hiByte w else s.reg q := by
  cases q <;> rfl
@[simp] theorem State.setPair_sp_reg (s : State) (w : Word) (q : Reg8) : (s.setPair .sp w).reg q = s.reg q := by
  cases q <;> rfl
/-- `RP[rr] <- v` gives `RP[rr]` the value `v`. -/

@[simp] theorem State.setPair_pair (s : State) (p : Pair) (w : Word) : (s.setPair p w).pair p = w := by
  cases p <;> first | rfl | exact mkWord_halves w

/-! #### `setStackPair` -/

@[simp] theorem State.setStackPair_bus (s : State) (p : StackPair) (w : Word) : (s.setStackPair p w).bus = s.bus := by cases p <;> rfl
@[simp] theorem State.setStackPair_display (s : State) (p : StackPair) (w : Word) : (s.setStackPair p w).display = s.display := by cases p <;> rfl
@[simp] theorem State.setStackPair_ioHistory (s : State) (p : StackPair) (w : Word) : (s.setStackPair p w).ioHistory = s.ioHistory := by cases p <;> rfl
@[simp] theorem State.setStackPair_outcome (s : State) (p : StackPair) (w : Word) : (s.setStackPair p w).outcome = s.outcome := by cases p <;> rfl
@[simp] theorem State.setStackPair_ime (s : State) (p : StackPair) (w : Word) : (s.setStackPair p w).regs.ime = s.regs.ime := by cases p <;> rfl
@[simp] theorem State.setStackPair_halted (s : State) (p : StackPair) (w : Word) : (s.setStackPair p w).regs.halted = s.regs.halted := by cases p <;> rfl
@[simp] theorem State.setStackPair_pc (s : State) (p : StackPair) (w : Word) : (s.setStackPair p w).regs.pc = s.regs.pc := by cases p <;> rfl
@[simp] theorem State.setStackPair_sp (s : State) (p : StackPair) (w : Word) : (s.setStackPair p w).regs.sp = s.regs.sp := by cases p <;> rfl
@[simp] theorem State.setStackPair_f (s : State) (p : StackPair) (w : Word) : (s.setStackPair p w).regs.f = if p = .af then loByte w &&& 0xF0 else s.regs.f := by cases p <;> rfl
@[simp] theorem State.setStackPair_bc_reg (s : State) (w : Word) (q : Reg8) :
    (s.setStackPair .bc w).reg q = if q = .c then loByte w else if q = .b then hiByte w else s.reg q := by
  cases q <;> rfl
@[simp] theorem State.setStackPair_de_reg (s : State) (w : Word) (q : Reg8) :
    (s.setStackPair .de w).reg q = if q = .e then loByte w else if q = .d then hiByte w else s.reg q := by
  cases q <;> rfl
@[simp] theorem State.setStackPair_hl_reg (s : State) (w : Word) (q : Reg8) :
    (s.setStackPair .hl w).reg q = if q = .l then loByte w else if q = .h then hiByte w else s.reg q := by
  cases q <;> rfl
@[simp] theorem State.setStackPair_af_reg (s : State) (w : Word) (q : Reg8) :
    (s.setStackPair .af w).reg q = if q = .a then hiByte w else s.reg q := by
  cases q <;> rfl
/-- `A <- v` is read back as the accumulator. -/

@[simp] theorem State.setReg_a_a (s : State) (v : Byte) : (s.setReg .a v).regs.a = v := rfl
/-! ### The four flags -/

@[simp] theorem State.setFz_fz (s : State) (b : Bool) : (s.setFz b).fz = b :=
  putBit_getLsbD_same _ _ _ (by decide)
@[simp] theorem State.setFn_fz (s : State) (b : Bool) : (s.setFn b).fz = s.fz :=
  putBit_getLsbD_other _ _ _ _ (by decide) (by decide)
@[simp] theorem State.setFh_fz (s : State) (b : Bool) : (s.setFh b).fz = s.fz :=
  putBit_getLsbD_other _ _ _ _ (by decide) (by decide)
@[simp] theorem State.setFc_fz (s : State) (b : Bool) : (s.setFc b).fz = s.fz :=
  putBit_getLsbD_other _ _ _ _ (by decide) (by decide)
@[simp] theorem State.setFz_fn (s : State) (b : Bool) : (s.setFz b).fn = s.fn :=
  putBit_getLsbD_other _ _ _ _ (by decide) (by decide)
@[simp] theorem State.setFn_fn (s : State) (b : Bool) : (s.setFn b).fn = b :=
  putBit_getLsbD_same _ _ _ (by decide)
@[simp] theorem State.setFh_fn (s : State) (b : Bool) : (s.setFh b).fn = s.fn :=
  putBit_getLsbD_other _ _ _ _ (by decide) (by decide)
@[simp] theorem State.setFc_fn (s : State) (b : Bool) : (s.setFc b).fn = s.fn :=
  putBit_getLsbD_other _ _ _ _ (by decide) (by decide)
@[simp] theorem State.setFz_fh (s : State) (b : Bool) : (s.setFz b).fh = s.fh :=
  putBit_getLsbD_other _ _ _ _ (by decide) (by decide)
@[simp] theorem State.setFn_fh (s : State) (b : Bool) : (s.setFn b).fh = s.fh :=
  putBit_getLsbD_other _ _ _ _ (by decide) (by decide)
@[simp] theorem State.setFh_fh (s : State) (b : Bool) : (s.setFh b).fh = b :=
  putBit_getLsbD_same _ _ _ (by decide)
@[simp] theorem State.setFc_fh (s : State) (b : Bool) : (s.setFc b).fh = s.fh :=
  putBit_getLsbD_other _ _ _ _ (by decide) (by decide)
@[simp] theorem State.setFz_fc (s : State) (b : Bool) : (s.setFz b).fc = s.fc :=
  putBit_getLsbD_other _ _ _ _ (by decide) (by decide)
@[simp] theorem State.setFn_fc (s : State) (b : Bool) : (s.setFn b).fc = s.fc :=
  putBit_getLsbD_other _ _ _ _ (by decide) (by decide)
@[simp] theorem State.setFh_fc (s : State) (b : Bool) : (s.setFh b).fc = s.fc :=
  putBit_getLsbD_other _ _ _ _ (by decide) (by decide)
@[simp] theorem State.setFc_fc (s : State) (b : Bool) : (s.setFc b).fc = b :=
  putBit_getLsbD_same _ _ _ (by decide)
@[simp] theorem State.setFlags_fz (s : State) (z n h c : Bool) : (s.setFlags z n h c).fz = z := by
  simp [State.setFlags]
@[simp] theorem State.setFlags_fn (s : State) (z n h c : Bool) : (s.setFlags z n h c).fn = n := by
  simp [State.setFlags]
@[simp] theorem State.setFlags_fh (s : State) (z n h c : Bool) : (s.setFlags z n h c).fh = h := by
  simp [State.setFlags]
@[simp] theorem State.setFlags_fc (s : State) (z n h c : Bool) : (s.setFlags z n h c).fc = c := by
  simp [State.setFlags]
@[simp] theorem State.setPc_fz (s : State) (w : Word) : (s.setPc w).fz = s.fz := rfl
@[simp] theorem State.setPc_fn (s : State) (w : Word) : (s.setPc w).fn = s.fn := rfl
@[simp] theorem State.setPc_fh (s : State) (w : Word) : (s.setPc w).fh = s.fh := rfl
@[simp] theorem State.setPc_fc (s : State) (w : Word) : (s.setPc w).fc = s.fc := rfl
@[simp] theorem State.setSp_fz (s : State) (w : Word) : (s.setSp w).fz = s.fz := rfl
@[simp] theorem State.setSp_fn (s : State) (w : Word) : (s.setSp w).fn = s.fn := rfl
@[simp] theorem State.setSp_fh (s : State) (w : Word) : (s.setSp w).fh = s.fh := rfl
@[simp] theorem State.setSp_fc (s : State) (w : Word) : (s.setSp w).fc = s.fc := rfl
@[simp] theorem State.setHl_fz (s : State) (w : Word) : (s.setHl w).fz = s.fz := rfl
@[simp] theorem State.setHl_fn (s : State) (w : Word) : (s.setHl w).fn = s.fn := rfl
@[simp] theorem State.setHl_fh (s : State) (w : Word) : (s.setHl w).fh = s.fh := rfl
@[simp] theorem State.setHl_fc (s : State) (w : Word) : (s.setHl w).fc = s.fc := rfl
@[simp] theorem State.setReg_fz (s : State) (r : Reg8) (v : Byte) : (s.setReg r v).fz = s.fz := by
  cases r <;> rfl
@[simp] theorem State.setPair_fz (s : State) (p : Pair) (w : Word) : (s.setPair p w).fz = s.fz := by
  cases p <;> rfl
@[simp] theorem State.setReg_fn (s : State) (r : Reg8) (v : Byte) : (s.setReg r v).fn = s.fn := by
  cases r <;> rfl
@[simp] theorem State.setPair_fn (s : State) (p : Pair) (w : Word) : (s.setPair p w).fn = s.fn := by
  cases p <;> rfl
@[simp] theorem State.setReg_fh (s : State) (r : Reg8) (v : Byte) : (s.setReg r v).fh = s.fh := by
  cases r <;> rfl
@[simp] theorem State.setPair_fh (s : State) (p : Pair) (w : Word) : (s.setPair p w).fh = s.fh := by
  cases p <;> rfl
@[simp] theorem State.setReg_fc (s : State) (r : Reg8) (v : Byte) : (s.setReg r v).fc = s.fc := by
  cases r <;> rfl
@[simp] theorem State.setPair_fc (s : State) (p : Pair) (w : Word) : (s.setPair p w).fc = s.fc := by
  cases p <;> rfl

/-! ### Reads of the address space -/

/-- A read depends on the address space, the display registers and the history of outside accesses alone. -/
theorem State.peek_congr {s t : State} (hb : t.bus = s.bus) (hd : t.display = s.display)
    (hh : t.ioHistory = s.ioHistory) (a : Word) : t.peek a = s.peek a := by
  unfold State.peek
  rw [hb, hd, hh]

/-- `RP[HL]` as the two halves that a store through HL sees (10_state.md R21). -/
theorem State.hl_eq (s : State) : s.hl = mkWord (s.reg .h) (s.reg .l) := rfl

theorem State.setHl_hl (s : State) (w : Word) : (s.setHl w).hl = w := mkWord_halves w

/-! ### Outcomes -/

/-- The state an instruction that costs `n` leaves, and its outcome. -/
theorem finish_eq (n : Nat) (s : State) : finish n s = .next { s with outcome := some (.cycles n) } := rfl

/-- HALT and STOP set the latch and nothing else. -/
theorem haltEngine_eq (s : State) :
    haltEngine s = .next { s with regs.halted := true, outcome := some .halted } := rfl

/-- `UnimplementedOpcode` commits nothing. -/
theorem raiseUnimplemented_eq (s : State) :
    raiseUnimplemented s = .next { s with outcome := some .unimplementedOpcode } := rfl

end Sys2Proof.Machine
end

