-- ==== Sys2Proof/Laws/Access.lean ====
section
/-! SUPPORT. Laws of the address space's operations: the ranges of the regions, what a read leaves unchanged, what a
store can change, and that both keep every store canonical. -/

namespace Sys2Proof.Machine

/-! ### The region table by numbers (20_memory.md R56) -/

/-- Every address lies in exactly the region its number says. -/
theorem regionOf_cases (a : Word) :
    (a.toNat < 0x4000 ∧ regionOf a = .romFixed) ∨
    ((0x4000 ≤ a.toNat ∧ a.toNat < 0x8000) ∧ regionOf a = .romBanked) ∨
    ((0x8000 ≤ a.toNat ∧ a.toNat < 0xA000) ∧ regionOf a = .vram) ∨
    ((0xA000 ≤ a.toNat ∧ a.toNat < 0xC000) ∧ regionOf a = .eram) ∨
    ((0xC000 ≤ a.toNat ∧ a.toNat < 0xE000) ∧ regionOf a = .wram) ∨
    ((0xE000 ≤ a.toNat ∧ a.toNat < 0xFE00) ∧ regionOf a = .echo) ∨
    ((0xFE00 ≤ a.toNat ∧ a.toNat < 0xFEA0) ∧ regionOf a = .oam) ∨
    ((0xFEA0 ≤ a.toNat ∧ a.toNat < 0xFF00) ∧ regionOf a = .unmapped) ∨
    ((0xFF00 ≤ a.toNat ∧ a.toNat < 0xFF80) ∧ regionOf a = .io) ∨
    ((0xFF80 ≤ a.toNat ∧ a.toNat < 0xFFFF) ∧ regionOf a = .hram) ∨
    (a.toNat = 0xFFFF ∧ regionOf a = .ie) := by
  have := a.isLt
  by_cases h1 : a.toNat < 0x4000
  · exact Or.inl ⟨h1, by simp only [regionOf, if_pos h1]⟩
  refine Or.inr ?_
  by_cases h2 : a.toNat < 0x8000
  · exact Or.inl ⟨⟨by omega, h2⟩, by simp only [regionOf, if_neg h1, if_pos h2]⟩
  refine Or.inr ?_
  by_cases h3 : a.toNat < 0xA000
  · exact Or.inl ⟨⟨by omega, h3⟩, by simp only [regionOf, if_neg h1, if_neg h2, if_pos h3]⟩
  refine Or.inr ?_
  by_cases h4 : a.toNat < 0xC000
  · exact Or.inl ⟨⟨by omega, h4⟩, by simp only [regionOf, if_neg h1, if_neg h2, if_neg h3, if_pos h4]⟩
  refine Or.inr ?_
  by_cases h5 : a.toNat < 0xE000
  · exact Or.inl ⟨⟨by omega, h5⟩, by simp only [regionOf, if_neg h1, if_neg h2, if_neg h3, if_neg h4, if_pos h5]⟩
  refine Or.inr ?_
  by_cases h6 : a.toNat < 0xFE00
  · exact Or.inl ⟨⟨by omega, h6⟩, by
      simp only [regionOf, if_neg h1, if_neg h2, if_neg h3, if_neg h4, if_neg h5, if_pos h6]⟩
  refine Or.inr ?_
  by_cases h7 : a.toNat < 0xFEA0
  · exact Or.inl ⟨⟨by omega, h7⟩, by
      simp only [regionOf, if_neg h1, if_neg h2, if_neg h3, if_neg h4, if_neg h5, if_neg h6, if_pos h7]⟩
  refine Or.inr ?_
  by_cases h8 : a.toNat < 0xFF00
  · exact Or.inl ⟨⟨by omega, h8⟩, by
      simp only [regionOf, if_neg h1, if_neg h2, if_neg h3, if_neg h4, if_neg h5, if_neg h6, if_neg h7,
        if_pos h8]⟩
  refine Or.inr ?_
  by_cases h9 : a.toNat < 0xFF80
  · exact Or.inl ⟨⟨by omega, h9⟩, by
      simp only [regionOf, if_neg h1, if_neg h2, if_neg h3, if_neg h4, if_neg h5, if_neg h6, if_neg h7,
        if_neg h8, if_pos h9]⟩
  refine Or.inr ?_
  by_cases h10 : a.toNat < 0xFFFF
  · exact Or.inl ⟨⟨by omega, h10⟩, by
      simp only [regionOf, if_neg h1, if_neg h2, if_neg h3, if_neg h4, if_neg h5, if_neg h6, if_neg h7,
        if_neg h8, if_neg h9, if_pos h10]⟩
  exact Or.inr ⟨by omega, by
    simp only [regionOf, if_neg h1, if_neg h2, if_neg h3, if_neg h4, if_neg h5, if_neg h6, if_neg h7,
      if_neg h8, if_neg h9, if_neg h10]⟩

theorem regionOf_romFixed (a : Word) : regionOf a = .romFixed ↔ a.toNat < 0x4000 := by
  rcases regionOf_cases a with ⟨h, e⟩ | ⟨h, e⟩ | ⟨h, e⟩ | ⟨h, e⟩ | ⟨h, e⟩ | ⟨h, e⟩ | ⟨h, e⟩ | ⟨h, e⟩ | ⟨h, e⟩ | ⟨h, e⟩ | ⟨h, e⟩ <;>
    simp only [e, reduceCtorEq, false_iff, true_iff] <;> omega

theorem regionOf_romBanked (a : Word) : regionOf a = .romBanked ↔ 0x4000 ≤ a.toNat ∧ a.toNat < 0x8000 := by
  rcases regionOf_cases a with ⟨h, e⟩ | ⟨h, e⟩ | ⟨h, e⟩ | ⟨h, e⟩ | ⟨h, e⟩ | ⟨h, e⟩ | ⟨h, e⟩ | ⟨h, e⟩ | ⟨h, e⟩ | ⟨h, e⟩ | ⟨h, e⟩ <;>
    simp only [e, reduceCtorEq, false_iff, true_iff] <;> omega

theorem regionOf_vram (a : Word) : regionOf a = .vram ↔ 0x8000 ≤ a.toNat ∧ a.toNat < 0xA000 := by
  rcases regionOf_cases a with ⟨h, e⟩ | ⟨h, e⟩ | ⟨h, e⟩ | ⟨h, e⟩ | ⟨h, e⟩ | ⟨h, e⟩ | ⟨h, e⟩ | ⟨h, e⟩ | ⟨h, e⟩ | ⟨h, e⟩ | ⟨h, e⟩ <;>
    simp only [e, reduceCtorEq, false_iff, true_iff] <;> omega

theorem regionOf_eram (a : Word) : regionOf a = .eram ↔ 0xA000 ≤ a.toNat ∧ a.toNat < 0xC000 := by
  rcases regionOf_cases a with ⟨h, e⟩ | ⟨h, e⟩ | ⟨h, e⟩ | ⟨h, e⟩ | ⟨h, e⟩ | ⟨h, e⟩ | ⟨h, e⟩ | ⟨h, e⟩ | ⟨h, e⟩ | ⟨h, e⟩ | ⟨h, e⟩ <;>
    simp only [e, reduceCtorEq, false_iff, true_iff] <;> omega

theorem regionOf_wram (a : Word) : regionOf a = .wram ↔ 0xC000 ≤ a.toNat ∧ a.toNat < 0xE000 := by
  rcases regionOf_cases a with ⟨h, e⟩ | ⟨h, e⟩ | ⟨h, e⟩ | ⟨h, e⟩ | ⟨h, e⟩ | ⟨h, e⟩ | ⟨h, e⟩ | ⟨h, e⟩ | ⟨h, e⟩ | ⟨h, e⟩ | ⟨h, e⟩ <;>
    simp only [e, reduceCtorEq, false_iff, true_iff] <;> omega

theorem regionOf_echo (a : Word) : regionOf a = .echo ↔ 0xE000 ≤ a.toNat ∧ a.toNat < 0xFE00 := by
  rcases regionOf_cases a with ⟨h, e⟩ | ⟨h, e⟩ | ⟨h, e⟩ | ⟨h, e⟩ | ⟨h, e⟩ | ⟨h, e⟩ | ⟨h, e⟩ | ⟨h, e⟩ | ⟨h, e⟩ | ⟨h, e⟩ | ⟨h, e⟩ <;>
    simp only [e, reduceCtorEq, false_iff, true_iff] <;> omega

theorem regionOf_oam (a : Word) : regionOf a = .oam ↔ 0xFE00 ≤ a.toNat ∧ a.toNat < 0xFEA0 := by
  rcases regionOf_cases a with ⟨h, e⟩ | ⟨h, e⟩ | ⟨h, e⟩ | ⟨h, e⟩ | ⟨h, e⟩ | ⟨h, e⟩ | ⟨h, e⟩ | ⟨h, e⟩ | ⟨h, e⟩ | ⟨h, e⟩ | ⟨h, e⟩ <;>
    simp only [e, reduceCtorEq, false_iff, true_iff] <;> omega

theorem regionOf_unmapped (a : Word) : regionOf a = .unmapped ↔ 0xFEA0 ≤ a.toNat ∧ a.toNat < 0xFF00 := by
  rcases regionOf_cases a with ⟨h, e⟩ | ⟨h, e⟩ | ⟨h, e⟩ | ⟨h, e⟩ | ⟨h, e⟩ | ⟨h, e⟩ | ⟨h, e⟩ | ⟨h, e⟩ | ⟨h, e⟩ | ⟨h, e⟩ | ⟨h, e⟩ <;>
    simp only [e, reduceCtorEq, false_iff, true_iff] <;> omega

theorem regionOf_io (a : Word) : regionOf a = .io ↔ 0xFF00 ≤ a.toNat ∧ a.toNat < 0xFF80 := by
  rcases regionOf_cases a with ⟨h, e⟩ | ⟨h, e⟩ | ⟨h, e⟩ | ⟨h, e⟩ | ⟨h, e⟩ | ⟨h, e⟩ | ⟨h, e⟩ | ⟨h, e⟩ | ⟨h, e⟩ | ⟨h, e⟩ | ⟨h, e⟩ <;>
    simp only [e, reduceCtorEq, false_iff, true_iff] <;> omega

theorem regionOf_hram (a : Word) : regionOf a = .hram ↔ 0xFF80 ≤ a.toNat ∧ a.toNat < 0xFFFF := by
  rcases regionOf_cases a with ⟨h, e⟩ | ⟨h, e⟩ | ⟨h, e⟩ | ⟨h, e⟩ | ⟨h, e⟩ | ⟨h, e⟩ | ⟨h, e⟩ | ⟨h, e⟩ | ⟨h, e⟩ | ⟨h, e⟩ | ⟨h, e⟩ <;>
    simp only [e, reduceCtorEq, false_iff, true_iff] <;> omega

theorem regionOf_ie (a : Word) : regionOf a = .ie ↔ a.toNat = 0xFFFF := by
  rcases regionOf_cases a with ⟨h, e⟩ | ⟨h, e⟩ | ⟨h, e⟩ | ⟨h, e⟩ | ⟨h, e⟩ | ⟨h, e⟩ | ⟨h, e⟩ | ⟨h, e⟩ | ⟨h, e⟩ | ⟨h, e⟩ | ⟨h, e⟩ <;>
    simp only [e, reduceCtorEq, false_iff, true_iff] <;> omega

/-- External RAM reached at all is reached inside its store (R62). -/
theorem AddressSpace.eramOffset_lt (b : AddressSpace) (a : Word) (hr : regionOf a = .eram)
    (h : b.eramReachable = true) : b.eramOffset a < b.ramBankCount * 0x2000 := by
  have ha := (regionOf_eram a).1 hr
  simp only [AddressSpace.eramReachable, Bool.and_eq_true, decide_eq_true_eq] at h
  have hb : b.effRamBank ≤ b.ramBankCount - 1 := Nat.and_le_right
  unfold AddressSpace.eramOffset
  omega

/-! ### A read, region by region (20_memory.md R57) -/

/-- A display register has one address (10_state.md R40). -/
theorem displayReg_inj {a b : Word} {r : DisplayReg} (ha : displayReg a = some r) (hb : displayReg b = some r) :
    a = b := by
  have key : ∀ c : Word, displayReg c = some r → c.toNat =
      match r with
      | .lcdc => 0xFF40
      | .stat => 0xFF41
      | .scy => 0xFF42
      | .scx => 0xFF43
      | .ly => 0xFF44
      | .lyc => 0xFF45
      | .bgp => 0xFF47
      | .obp0 => 0xFF48
      | .obp1 => 0xFF49 := by
    intro c hc
    unfold displayReg at hc
    dsimp only at hc
    split at hc
    · next h => cases hc; exact h
    split at hc
    · next h => cases hc; exact h
    split at hc
    · next h => cases hc; exact h
    split at hc
    · next h => cases hc; exact h
    split at hc
    · next h => cases hc; exact h
    split at hc
    · next h => cases hc; exact h
    split at hc
    · next h => cases hc; exact h
    split at hc
    · next h => cases hc; exact h
    split at hc
    · next h => cases hc; exact h
    · cases hc
  exact BitVec.eq_of_toNat_eq ((key a ha).trans (key b hb).symm)

theorem State.peek_romFixed {s : State} {a : Word} (h : regionOf a = .romFixed) :
    s.peek a = s.bus.cartByte a.toNat := by
  unfold State.peek
  rw [h]

theorem State.peek_romBanked {s : State} {a : Word} (h : regionOf a = .romBanked) :
    s.peek a = s.bus.cartByte (s.bus.romOffset a) := by
  unfold State.peek
  rw [h]

theorem State.peek_vram {s : State} {a : Word} (h : regionOf a = .vram) :
    s.peek a = Memory.get s.bus.vram (a.toNat - 0x8000) := by
  unfold State.peek
  rw [h]

theorem State.peek_eram {s : State} {a : Word} (h : regionOf a = .eram) :
    s.peek a = if s.bus.eramReachable then Memory.get s.bus.eram (s.bus.eramOffset a) else 0xFF := by
  unfold State.peek
  rw [h]

theorem State.peek_wram {s : State} {a : Word} (h : regionOf a = .wram) :
    s.peek a = Memory.get s.bus.wram (a.toNat - 0xC000) := by
  unfold State.peek
  rw [h]

theorem State.peek_echo {s : State} {a : Word} (h : regionOf a = .echo) :
    s.peek a = Memory.get s.bus.wram (a.toNat - 0xE000) := by
  unfold State.peek
  rw [h]

theorem State.peek_oam {s : State} {a : Word} (h : regionOf a = .oam) :
    s.peek a = Memory.get s.bus.oam (a.toNat - 0xFE00) := by
  unfold State.peek
  rw [h]

theorem State.peek_unmapped {s : State} {a : Word} (h : regionOf a = .unmapped) : s.peek a = 0xFF := by
  unfold State.peek
  rw [h]

theorem State.peek_displayReg {s : State} {a : Word} {r : DisplayReg} (h : regionOf a = .io)
    (hr : displayReg a = some r) : s.peek a = s.display.read r := by
  unfold State.peek
  rw [h, hr]

theorem State.peek_external {s : State} {a : Word} (h : regionOf a = .io) (hr : displayReg a = none) :
    s.peek a = Config.ioExtRead s.ioHistory a := by
  unfold State.peek
  rw [h, hr]

theorem State.peek_hram {s : State} {a : Word} (h : regionOf a = .hram) :
    s.peek a = Memory.get s.bus.hram (a.toNat - 0xFF80) := by
  unfold State.peek
  rw [h]

theorem State.peek_ie {s : State} {a : Word} (h : regionOf a = .ie) : s.peek a = s.bus.ie := by
  unfold State.peek
  rw [h]

/-! ### A store, region by region (R58) -/

theorem State.store_ramEnable {s : State} {a : Word} (v : Byte) (h : a.toNat < 0x2000) :
    s.store a v = { s with bus := s.bus.bankWriteRamEnable v } := by
  unfold State.store
  rw [(regionOf_romFixed a).2 (by omega)]
  exact if_pos h

theorem State.store_romLow {s : State} {a : Word} (v : Byte) (h : 0x2000 ≤ a.toNat) (h' : a.toNat < 0x4000) :
    s.store a v = { s with bus := s.bus.bankWriteRomLow v } := by
  unfold State.store
  rw [(regionOf_romFixed a).2 (by omega)]
  exact if_neg (by omega)

theorem State.store_upper {s : State} {a : Word} (v : Byte) (h : 0x4000 ≤ a.toNat) (h' : a.toNat < 0x6000) :
    s.store a v = { s with bus := s.bus.bankWriteUpper v } := by
  unfold State.store
  rw [(regionOf_romBanked a).2 (by omega)]
  exact if_pos h'

theorem State.store_mode {s : State} {a : Word} (v : Byte) (h : 0x6000 ≤ a.toNat) (h' : a.toNat < 0x8000) :
    s.store a v = { s with bus := s.bus.bankWriteMode v } := by
  unfold State.store
  rw [(regionOf_romBanked a).2 (by omega)]
  exact if_neg (by omega)

theorem State.store_vram {s : State} {a : Word} (v : Byte) (h : regionOf a = .vram) :
    s.store a v = { s with bus.vram := Memory.set s.bus.vram (a.toNat - 0x8000) v } := by
  unfold State.store
  rw [h]

theorem State.store_eram {s : State} {a : Word} (v : Byte) (h : regionOf a = .eram)
    (hr : s.bus.eramReachable = true) :
    s.store a v = { s with bus.eram := Memory.set s.bus.eram (s.bus.eramOffset a) v } := by
  unfold State.store
  rw [h]
  exact if_pos hr

theorem State.store_eram_off {s : State} {a : Word} (v : Byte) (h : regionOf a = .eram)
    (hr : s.bus.eramReachable = false) : s.store a v = s := by
  unfold State.store
  rw [h]
  exact if_neg (by simp [hr])

theorem State.store_wram {s : State} {a : Word} (v : Byte) (h : regionOf a = .wram) :
    s.store a v = { s with bus.wram := Memory.set s.bus.wram (a.toNat - 0xC000) v } := by
  unfold State.store
  rw [h]

theorem State.store_echo {s : State} {a : Word} (v : Byte) (h : regionOf a = .echo) :
    s.store a v = { s with bus.wram := Memory.set s.bus.wram (a.toNat - 0xE000) v } := by
  unfold State.store
  rw [h]

theorem State.store_oam {s : State} {a : Word} (v : Byte) (h : regionOf a = .oam) :
    s.store a v = { s with bus.oam := Memory.set s.bus.oam (a.toNat - 0xFE00) v } := by
  unfold State.store
  rw [h]

theorem State.store_unmapped {s : State} {a : Word} (v : Byte) (h : regionOf a = .unmapped) : s.store a v = s := by
  unfold State.store
  rw [h]

theorem State.store_displayReg {s : State} {a : Word} {r : DisplayReg} (v : Byte) (h : regionOf a = .io)
    (hr : displayReg a = some r) : s.store a v = { s with display := s.display.write r v } := by
  unfold State.store
  rw [h, hr]

theorem State.store_external {s : State} {a : Word} (v : Byte) (h : regionOf a = .io)
    (hr : displayReg a = none) : s.store a v = { s with ioHistory := .write a v :: s.ioHistory } := by
  unfold State.store
  rw [h, hr]

theorem State.store_hram {s : State} {a : Word} (v : Byte) (h : regionOf a = .hram) :
    s.store a v = { s with bus.hram := Memory.set s.bus.hram (a.toNat - 0xFF80) v } := by
  unfold State.store
  rw [h]

theorem State.store_ie {s : State} {a : Word} (v : Byte) (h : regionOf a = .ie) :
    s.store a v = { s with bus.ie := v } := by
  unfold State.store
  rw [h]

/-! ### A read -/

@[simp] theorem State.afterRead_regs (s : State) (a : Word) : (s.afterRead a).regs = s.regs := by
  unfold State.afterRead
  split <;> rfl

@[simp] theorem State.afterRead_bus (s : State) (a : Word) : (s.afterRead a).bus = s.bus := by
  unfold State.afterRead
  split <;> rfl

@[simp] theorem State.afterRead_display (s : State) (a : Word) : (s.afterRead a).display = s.display := by
  unfold State.afterRead
  split <;> rfl

@[simp] theorem State.afterRead_outcome (s : State) (a : Word) : (s.afterRead a).outcome = s.outcome := by
  unfold State.afterRead
  split <;> rfl

theorem State.afterRead_ioHistory (s : State) (a : Word) :
    (s.afterRead a).ioHistory = if isExternalIo a then .read a :: s.ioHistory else s.ioHistory := by
  unfold State.afterRead
  split <;> rfl

/-- Where no peripheral outside the block answers, the history decides nothing. -/
theorem State.peek_congr_internal {s t : State} (hb : t.bus = s.bus) (hd : t.display = s.display) {a : Word}
    (ha : isExternalIo a = false) : t.peek a = s.peek a := by
  unfold State.peek
  rw [hb, hd]
  split <;> try rfl
  next hr =>
    simp only [isExternalIo, hr, decide_true, Bool.true_and, Option.isNone_eq_false_iff,
      Option.isSome_iff_exists] at ha
    obtain ⟨r, hr'⟩ := ha
    rw [hr']

/-- A read changes no byte of the block's own (20_memory.md R79). -/
theorem State.afterRead_peek (s : State) (a : Word) {b : Word} (hb : isExternalIo b = false) :
    (s.afterRead a).peek b = s.peek b :=
  State.peek_congr_internal (s.afterRead_bus a) (s.afterRead_display a) hb

theorem State.reg_of_regs {s t : State} (h : t.regs = s.regs) (r : Reg8) : t.reg r = s.reg r := by
  cases r <;> simp [State.reg, h]

@[simp] theorem State.afterRead_reg (s : State) (a : Word) (r : Reg8) : (s.afterRead a).reg r = s.reg r :=
  State.reg_of_regs (s.afterRead_regs a) r

@[simp] theorem State.afterRead_fz (s : State) (a : Word) : (s.afterRead a).fz = s.fz := by
  unfold State.fz
  rw [State.afterRead_regs]

@[simp] theorem State.afterRead_fn (s : State) (a : Word) : (s.afterRead a).fn = s.fn := by
  unfold State.fn
  rw [State.afterRead_regs]

@[simp] theorem State.afterRead_fh (s : State) (a : Word) : (s.afterRead a).fh = s.fh := by
  unfold State.fh
  rw [State.afterRead_regs]

@[simp] theorem State.afterRead_fc (s : State) (a : Word) : (s.afterRead a).fc = s.fc := by
  unfold State.fc
  rw [State.afterRead_regs]

@[simp] theorem State.afterRead_hl (s : State) (a : Word) : (s.afterRead a).hl = s.hl := by
  unfold State.hl
  rw [State.afterRead_regs]

/-! ### A store -/

/-- A store writes no engine register (10_state.md R30). -/
@[simp] theorem State.store_regs (s : State) (a : Word) (v : Byte) : (s.store a v).regs = s.regs := by
  unfold State.store
  repeat' split
  all_goals rfl

@[simp] theorem State.store_outcome (s : State) (a : Word) (v : Byte) : (s.store a v).outcome = s.outcome := by
  unfold State.store
  repeat' split
  all_goals rfl

@[simp] theorem State.store_reg (s : State) (a : Word) (v : Byte) (r : Reg8) : (s.store a v).reg r = s.reg r :=
  State.reg_of_regs (s.store_regs a v) r

@[simp] theorem State.store_fz (s : State) (a : Word) (v : Byte) : (s.store a v).fz = s.fz := by
  unfold State.fz
  rw [State.store_regs]

@[simp] theorem State.store_fn (s : State) (a : Word) (v : Byte) : (s.store a v).fn = s.fn := by
  unfold State.fn
  rw [State.store_regs]

@[simp] theorem State.store_fh (s : State) (a : Word) (v : Byte) : (s.store a v).fh = s.fh := by
  unfold State.fh
  rw [State.store_regs]

@[simp] theorem State.store_fc (s : State) (a : Word) (v : Byte) : (s.store a v).fc = s.fc := by
  unfold State.fc
  rw [State.store_regs]

/-- A store depends on, and writes, the address space, the display registers and the history alone. -/
theorem State.store_congr {s t : State} (hb : t.bus = s.bus) (hd : t.display = s.display)
    (hh : t.ioHistory = s.ioHistory) (a : Word) (v : Byte) :
    (t.store a v).bus = (s.store a v).bus ∧ (t.store a v).display = (s.store a v).display ∧
      (t.store a v).ioHistory = (s.store a v).ioHistory := by
  unfold State.store
  rw [hb, hd, hh]
  repeat' split
  all_goals exact ⟨by first | rfl | assumption, by first | rfl | assumption, by first | rfl | assumption⟩

/-- A store writes the display registers only, none of the timer's own fields (10_state.md R48, R49). -/
theorem Display.write_keeps (d : Display) (r : DisplayReg) (v : Byte) :
    (d.write r v).ly = d.ly ∧ (d.write r v).mode = d.mode ∧ (d.write r v).modeClock = d.modeClock ∧
      (d.write r v).fb = d.fb ∧ (d.write r v).frameCount = d.frameCount := by
  cases r <;> exact ⟨rfl, rfl, rfl, rfl, rfl⟩

theorem State.store_display_keeps (s : State) (a : Word) (v : Byte) :
    (s.store a v).display.ly = s.display.ly ∧ (s.store a v).display.mode = s.display.mode ∧
      (s.store a v).display.modeClock = s.display.modeClock ∧ (s.store a v).display.fb = s.display.fb ∧
      (s.store a v).display.frameCount = s.display.frameCount := by
  unfold State.store
  repeat' split
  all_goals first | exact ⟨rfl, rfl, rfl, rfl, rfl⟩ | exact Display.write_keeps _ _ _

/-- Every store of the machine stays canonical and inside its region under a write. -/
theorem State.store_memoryWf {s : State} (h : s.memoryWf = true) (a : Word) (v : Byte) :
    (s.store a v).memoryWf = true := by
  simp only [State.memoryWf, storeWf, Bool.and_eq_true] at h ⊢
  obtain ⟨⟨⟨⟨⟨⟨hc, hv⟩, hw⟩, hh⟩, ho⟩, he⟩, hf⟩ := h
  unfold State.store
  split
  case h_1 | h_2 =>
    split <;> (try unfold AddressSpace.bankWriteUpper) <;> (try split) <;>
      exact ⟨⟨⟨⟨⟨⟨hc, hv⟩, hw⟩, hh⟩, ho⟩, he⟩, hf⟩
  case h_3 hr =>
    have := (regionOf_vram a).1 hr
    exact ⟨⟨⟨⟨⟨⟨hc, Memory.wf_set hv.1 _ _, Memory.below_set hv.2 (by omega) _⟩, hw⟩, hh⟩, ho⟩, he⟩, hf⟩
  case h_4 hr =>
    split
    · next hre =>
      have := s.bus.eramOffset_lt a hr hre
      exact ⟨⟨⟨⟨⟨⟨hc, hv⟩, hw⟩, hh⟩, ho⟩, Memory.wf_set he.1 _ _, Memory.below_set he.2 this _⟩, hf⟩
    · exact ⟨⟨⟨⟨⟨⟨hc, hv⟩, hw⟩, hh⟩, ho⟩, he⟩, hf⟩
  case h_5 hr =>
    have := (regionOf_wram a).1 hr
    exact ⟨⟨⟨⟨⟨⟨hc, hv⟩, Memory.wf_set hw.1 _ _, Memory.below_set hw.2 (by omega) _⟩, hh⟩, ho⟩, he⟩, hf⟩
  case h_6 hr =>
    have := (regionOf_echo a).1 hr
    exact ⟨⟨⟨⟨⟨⟨hc, hv⟩, Memory.wf_set hw.1 _ _, Memory.below_set hw.2 (by omega) _⟩, hh⟩, ho⟩, he⟩, hf⟩
  case h_7 hr =>
    have := (regionOf_oam a).1 hr
    exact ⟨⟨⟨⟨⟨⟨hc, hv⟩, hw⟩, hh⟩, Memory.wf_set ho.1 _ _, Memory.below_set ho.2 (by omega) _⟩, he⟩, hf⟩
  case h_8 => exact ⟨⟨⟨⟨⟨⟨hc, hv⟩, hw⟩, hh⟩, ho⟩, he⟩, hf⟩
  case h_9 =>
    split
    · next r _ =>
      refine ⟨⟨⟨⟨⟨⟨hc, hv⟩, hw⟩, hh⟩, ho⟩, he⟩, ?_⟩
      show Memory.wf (s.display.write r v).fb = true ∧ Memory.below _ (s.display.write r v).fb = true
      rw [(s.display.write_keeps r v).2.2.2.1]
      exact hf
    · exact ⟨⟨⟨⟨⟨⟨hc, hv⟩, hw⟩, hh⟩, ho⟩, he⟩, hf⟩
  case h_10 hr =>
    have := (regionOf_hram a).1 hr
    exact ⟨⟨⟨⟨⟨⟨hc, hv⟩, hw⟩, Memory.wf_set hh.1 _ _, Memory.below_set hh.2 (by omega) _⟩, ho⟩, he⟩, hf⟩
  case h_11 => exact ⟨⟨⟨⟨⟨⟨hc, hv⟩, hw⟩, hh⟩, ho⟩, he⟩, hf⟩

/-- Every store of the machine at reset is canonical and inside its region. -/
theorem State.reset_memoryWf : State.reset.memoryWf = true := rfl

/-- A read keeps every store of the machine. -/
theorem State.afterRead_memoryWf (s : State) (a : Word) : (s.afterRead a).memoryWf = s.memoryWf := by
  simp [State.memoryWf]

/-! ### What a store leaves unchanged -/

/-- A display register written is the only one whose read changes. -/
theorem Display.read_write_other (d : Display) {r q : DisplayReg} (h : q ≠ r) (v : Byte) :
    (d.write r v).read q = d.read q := by
  cases r <;> cases q <;> first | exact absurd rfl h | simp only [Display.read, Display.write]

theorem AddressSpace.cartByte_congr {b c : AddressSpace} (h1 : c.cart = b.cart) (h2 : c.cartLen = b.cartLen)
    {o p : Nat} (h : o = p) : c.cartByte o = b.cartByte p := by
  unfold AddressSpace.cartByte
  rw [h1, h2, h]

theorem AddressSpace.eramOffset_congr {b c : AddressSpace} (h1 : c.ramBankCount = b.ramBankCount)
    (h2 : c.ramBank = b.ramBank) (a : Word) : c.eramOffset a = b.eramOffset a := by
  unfold AddressSpace.eramOffset AddressSpace.effRamBank
  rw [h1, h2]

/-- Reads outside the peripherals, part by part of the state. -/
theorem State.peek_congr_parts {s t : State} {b : Word}
    (hcart : t.bus.cart = s.bus.cart) (hlen : t.bus.cartLen = s.bus.cartLen)
    (hbank : regionOf b = .romBanked → t.bus.effRomBank = s.bus.effRomBank)
    (hvram : regionOf b = .vram →
      Memory.get t.bus.vram (b.toNat - 0x8000) = Memory.get s.bus.vram (b.toNat - 0x8000))
    (heram : regionOf b = .eram → t.peek b = s.peek b)
    (hwram : regionOf b = .wram →
      Memory.get t.bus.wram (b.toNat - 0xC000) = Memory.get s.bus.wram (b.toNat - 0xC000))
    (hecho : regionOf b = .echo →
      Memory.get t.bus.wram (b.toNat - 0xE000) = Memory.get s.bus.wram (b.toNat - 0xE000))
    (hoam : regionOf b = .oam →
      Memory.get t.bus.oam (b.toNat - 0xFE00) = Memory.get s.bus.oam (b.toNat - 0xFE00))
    (hio : regionOf b = .io → t.peek b = s.peek b)
    (hhram : regionOf b = .hram →
      Memory.get t.bus.hram (b.toNat - 0xFF80) = Memory.get s.bus.hram (b.toNat - 0xFF80))
    (hie : regionOf b = .ie → t.bus.ie = s.bus.ie) : t.peek b = s.peek b := by
  cases h : regionOf b
  · rw [State.peek_romFixed h, State.peek_romFixed h]
    exact AddressSpace.cartByte_congr hcart hlen rfl
  · rw [State.peek_romBanked h, State.peek_romBanked h]
    exact AddressSpace.cartByte_congr hcart hlen (congrArg (· * 0x4000 + _) (hbank h))
  · rw [State.peek_vram h, State.peek_vram h, hvram h]
  · exact heram h
  · rw [State.peek_wram h, State.peek_wram h, hwram h]
  · rw [State.peek_echo h, State.peek_echo h, hecho h]
  · rw [State.peek_oam h, State.peek_oam h, hoam h]
  · exact (State.peek_unmapped h).trans (State.peek_unmapped h).symm
  · exact hio h
  · rw [State.peek_hram h, State.peek_hram h, hhram h]
  · rw [State.peek_ie h, State.peek_ie h, hie h]

/-- Reads of external RAM depend on its latches, count, bank and bytes. -/
theorem State.peek_eram_congr {s t : State} {b : Word} (h : regionOf b = .eram)
    (h1 : t.bus.ramEnabled = s.bus.ramEnabled) (h2 : t.bus.ramBankCount = s.bus.ramBankCount)
    (h3 : t.bus.ramBank = s.bus.ramBank) (h4 : t.bus.eram = s.bus.eram) : t.peek b = s.peek b := by
  have hr : t.bus.eramReachable = s.bus.eramReachable := by
    unfold AddressSpace.eramReachable
    rw [h1, h2]
  have ho : t.bus.eramOffset b = s.bus.eramOffset b := AddressSpace.eramOffset_congr h2 h3 b
  rw [State.peek_eram h, State.peek_eram h, hr, ho, h4]

/-- Reads of the I/O space depend on the display registers and the history. -/
theorem State.peek_io_congr {s t : State} {b : Word} (h : regionOf b = .io) (h1 : t.display = s.display)
    (h2 : t.ioHistory = s.ioHistory) : t.peek b = s.peek b := by
  cases hr : displayReg b with
  | none => rw [State.peek_external h hr, State.peek_external h hr, h2]
  | some r => rw [State.peek_displayReg h hr, State.peek_displayReg h hr, h1]

theorem State.peek_trans {s t u : State} {b : Word} (h : s = t) (k : t.peek b = u.peek b) : s.peek b = u.peek b :=
  h ▸ k

/-- A byte on which a store has no bearing by `storeTouches` reads as before (R58). -/
theorem State.store_peek_other (s : State) {a b : Word} (v : Byte) (h : storeTouches a b = false) :
    (s.store a v).peek b = s.peek b := by
  have hdiff : ∀ {k : Nat}, b ≠ a → k ≤ a.toNat → k ≤ b.toNat → b.toNat - k ≠ a.toNat - k := by
    intro k hne h1 h2 e
    exact hne (BitVec.eq_of_toNat_eq (by omega))
  unfold storeTouches at h
  cases hra : regionOf a <;> simp only [hra] at h
  case romFixed =>
    have ha := (regionOf_romFixed a).1 hra
    split at h
    · next hlt =>
      rw [State.store_ramEnable v hlt]
      simp only [decide_eq_false_iff_not] at h
      exact State.peek_congr_parts rfl rfl (fun _ => rfl) (fun _ => rfl) (fun hb => absurd hb h) (fun _ => rfl)
        (fun _ => rfl) (fun _ => rfl) (fun hb => State.peek_io_congr hb rfl rfl) (fun _ => rfl) (fun _ => rfl)
    · next hge =>
      rw [State.store_romLow v (by omega) ha]
      simp only [decide_eq_false_iff_not] at h
      exact State.peek_congr_parts rfl rfl (fun hb => absurd hb h) (fun _ => rfl)
        (fun hb => State.peek_eram_congr hb rfl rfl rfl rfl) (fun _ => rfl)
        (fun _ => rfl) (fun _ => rfl) (fun hb => State.peek_io_congr hb rfl rfl) (fun _ => rfl) (fun _ => rfl)
  case romBanked =>
    have ha := (regionOf_romBanked a).1 hra
    by_cases hlt : a.toNat < 0x6000
    · rw [if_pos hlt] at h
      rw [State.store_upper v ha.1 hlt]
      simp only [Bool.or_eq_false_iff, decide_eq_false_iff_not] at h
      unfold AddressSpace.bankWriteUpper
      split <;>
      exact State.peek_congr_parts rfl rfl (fun hb => absurd hb h.1) (fun _ => rfl)
        (fun hb => absurd hb h.2) (fun _ => rfl)
        (fun _ => rfl) (fun _ => rfl) (fun hb => State.peek_io_congr hb rfl rfl) (fun _ => rfl) (fun _ => rfl)
    · rw [State.store_mode v (by omega) ha.2]
      exact State.peek_congr_parts rfl rfl (fun _ => rfl) (fun _ => rfl)
        (fun hb => State.peek_eram_congr hb rfl rfl rfl rfl) (fun _ => rfl)
        (fun _ => rfl) (fun _ => rfl) (fun hb => State.peek_io_congr hb rfl rfl) (fun _ => rfl) (fun _ => rfl)
  case vram =>
    have ha := (regionOf_vram a).1 hra
    simp only [decide_eq_false_iff_not] at h
    rw [State.store_vram v hra]
    exact State.peek_congr_parts rfl rfl (fun _ => rfl)
      (fun hb => Memory.get_set_other _ _ (hdiff h ha.1 ((regionOf_vram b).1 hb).1))
      (fun hb => State.peek_eram_congr hb rfl rfl rfl rfl) (fun _ => rfl)
      (fun _ => rfl) (fun _ => rfl) (fun hb => State.peek_io_congr hb rfl rfl) (fun _ => rfl) (fun _ => rfl)
  case eram =>
    have ha := (regionOf_eram a).1 hra
    simp only [decide_eq_false_iff_not] at h
    cases hre : s.bus.eramReachable
    · rw [State.store_eram_off v hra hre]
    · refine State.peek_trans (State.store_eram v hra hre) ?_
      refine State.peek_congr_parts rfl rfl (fun _ => rfl) (fun _ => rfl) (fun hb => ?_) (fun _ => rfl)
        (fun _ => rfl) (fun _ => rfl) (fun hb => State.peek_io_congr hb rfl rfl) (fun _ => rfl) (fun _ => rfl)
      have hd := hdiff h ha.1 ((regionOf_eram b).1 hb).1
      have ho : s.bus.eramOffset b ≠ s.bus.eramOffset a := by
        unfold AddressSpace.eramOffset
        omega
      have hk : { s.bus with eram := Memory.set s.bus.eram (s.bus.eramOffset a) v }.eramOffset b =
          s.bus.eramOffset b := AddressSpace.eramOffset_congr rfl rfl b
      rw [State.peek_eram hb, State.peek_eram hb, hk, Memory.get_set_other _ _ ho]
      rfl
  case wram =>
    have ha := (regionOf_wram a).1 hra
    simp only [Bool.or_eq_false_iff, Bool.and_eq_false_iff, decide_eq_false_iff_not] at h
    rw [State.store_wram v hra]
    refine State.peek_congr_parts rfl rfl (fun _ => rfl) (fun _ => rfl)
      (fun hb => State.peek_eram_congr hb rfl rfl rfl rfl)
      (fun hb => Memory.get_set_other _ _ (hdiff h.1 ha.1 ((regionOf_wram b).1 hb).1))
      (fun hb => Memory.get_set_other _ _ fun e => ?_) (fun _ => rfl)
      (fun hb => State.peek_io_congr hb rfl rfl) (fun _ => rfl) (fun _ => rfl)
    have hb' := (regionOf_echo b).1 hb
    rcases h.2 with h2 | h2
    · exact h2 hb
    · exact h2 (by bv_omega)
  case echo =>
    have ha := (regionOf_echo a).1 hra
    simp only [Bool.or_eq_false_iff, decide_eq_false_iff_not] at h
    rw [State.store_echo v hra]
    refine State.peek_congr_parts rfl rfl (fun _ => rfl) (fun _ => rfl)
      (fun hb => State.peek_eram_congr hb rfl rfl rfl rfl)
      (fun hb => Memory.get_set_other _ _ fun e => h.2 ?_)
      (fun hb => Memory.get_set_other _ _ (hdiff h.1 ha.1 ((regionOf_echo b).1 hb).1)) (fun _ => rfl)
      (fun hb => State.peek_io_congr hb rfl rfl) (fun _ => rfl) (fun _ => rfl)
    have hb' := (regionOf_wram b).1 hb
    bv_omega
  case oam =>
    have ha := (regionOf_oam a).1 hra
    simp only [decide_eq_false_iff_not] at h
    rw [State.store_oam v hra]
    exact State.peek_congr_parts rfl rfl (fun _ => rfl) (fun _ => rfl)
      (fun hb => State.peek_eram_congr hb rfl rfl rfl rfl) (fun _ => rfl) (fun _ => rfl)
      (fun hb => Memory.get_set_other _ _ (hdiff h ha.1 ((regionOf_oam b).1 hb).1))
      (fun hb => State.peek_io_congr hb rfl rfl) (fun _ => rfl) (fun _ => rfl)
  case unmapped => rw [State.store_unmapped v hra]
  case io =>
    simp only [Bool.or_eq_false_iff, Bool.and_eq_false_iff, decide_eq_false_iff_not] at h
    cases hr : displayReg a with
    | none =>
      refine State.peek_trans (State.store_external v hra hr) 
        (State.peek_congr_internal (s := s) (t := { s with ioHistory := .write a v :: s.ioHistory }) rfl rfl ?_)
      rcases h.2 with h2 | h2
      · simp [isExternalIo, hra, hr] at h2
      · exact h2
    | some r =>
      rw [State.store_displayReg v hra hr]
      refine State.peek_congr_parts rfl rfl (fun _ => rfl) (fun _ => rfl)
        (fun hb => State.peek_eram_congr hb rfl rfl rfl rfl) (fun _ => rfl) (fun _ => rfl) (fun _ => rfl)
        (fun hb => ?_) (fun _ => rfl) (fun _ => rfl)
      cases hq : displayReg b with
      | none => rw [State.peek_external hb hq, State.peek_external hb hq]
      | some q =>
        rw [State.peek_displayReg hb hq, State.peek_displayReg hb hq]
        refine Display.read_write_other _ ?_ v
        rintro rfl
        exact h.1 (displayReg_inj hq hr)
  case hram =>
    have ha := (regionOf_hram a).1 hra
    simp only [decide_eq_false_iff_not] at h
    rw [State.store_hram v hra]
    exact State.peek_congr_parts rfl rfl (fun _ => rfl) (fun _ => rfl)
      (fun hb => State.peek_eram_congr hb rfl rfl rfl rfl) (fun _ => rfl) (fun _ => rfl) (fun _ => rfl)
      (fun hb => State.peek_io_congr hb rfl rfl)
      (fun hb => Memory.get_set_other _ _ (hdiff h ha.1 ((regionOf_hram b).1 hb).1)) (fun _ => rfl)
  case ie =>
    have ha := (regionOf_ie a).1 hra
    simp only [decide_eq_false_iff_not] at h
    rw [State.store_ie v hra]
    exact State.peek_congr_parts rfl rfl (fun _ => rfl) (fun _ => rfl)
      (fun hb => State.peek_eram_congr hb rfl rfl rfl rfl) (fun _ => rfl) (fun _ => rfl) (fun _ => rfl)
      (fun hb => State.peek_io_congr hb rfl rfl) (fun _ => rfl)
      (fun hb => absurd (BitVec.eq_of_toNat_eq (by rw [ha, (regionOf_ie b).1 hb])) h)

/-! ### The stack (00_scope.md R15) -/

theorem State.push16_eq (s : State) (v : Word) :
    s.push16 v =
      ((((s.setSp (s.regs.sp - 1)).store (s.regs.sp - 1) (hiByte v)).setSp (s.regs.sp - 1 - 1)).store
        (s.regs.sp - 1 - 1) (loByte v)) := by
  simp [State.push16, State.push8]

@[simp] theorem State.push16_sp (s : State) (v : Word) : (s.push16 v).regs.sp = s.regs.sp - 2 := by
  simp only [State.push16_eq, State.store_regs, State.setSp_sp]
  generalize s.regs.sp = x
  bv_omega

@[simp] theorem State.push16_reg (s : State) (v : Word) (r : Reg8) : (s.push16 v).reg r = s.reg r := by
  simp [State.push16_eq]

@[simp] theorem State.push16_outcome (s : State) (v : Word) : (s.push16 v).outcome = s.outcome := by
  simp [State.push16_eq]

@[simp] theorem State.push16_f (s : State) (v : Word) : (s.push16 v).regs.f = s.regs.f := by
  simp [State.push16_eq]

@[simp] theorem State.push16_pc (s : State) (v : Word) : (s.push16 v).regs.pc = s.regs.pc := by
  simp [State.push16_eq]

@[simp] theorem State.push16_ime (s : State) (v : Word) : (s.push16 v).regs.ime = s.regs.ime := by
  simp [State.push16_eq]

@[simp] theorem State.push16_halted (s : State) (v : Word) : (s.push16 v).regs.halted = s.regs.halted := by
  simp [State.push16_eq]

theorem State.push16_memoryWf {s : State} (h : s.memoryWf = true) (v : Word) : (s.push16 v).memoryWf = true := by
  rw [State.push16_eq]
  refine State.store_memoryWf ?_ _ _
  exact State.store_memoryWf (s := s.setSp (s.regs.sp - 1)) h _ _

theorem State.afterPop16_eq (s : State) :
    s.afterPop16 = (((s.afterRead s.regs.sp).afterRead (s.regs.sp + 1)).setSp (s.regs.sp + 2)) := by
  have h : s.regs.sp + 1 + 1 = s.regs.sp + 2 := by bv_omega
  simp only [State.afterPop16, State.afterPop8, State.setSp_sp, h]
  unfold State.afterRead State.setSp
  repeat' split
  all_goals rfl

@[simp] theorem State.afterPop16_sp (s : State) : s.afterPop16.regs.sp = s.regs.sp + 2 := by
  simp [State.afterPop16_eq]

@[simp] theorem State.afterPop16_bus (s : State) : s.afterPop16.bus = s.bus := by
  simp [State.afterPop16_eq]

@[simp] theorem State.afterPop16_display (s : State) : s.afterPop16.display = s.display := by
  simp [State.afterPop16_eq]

@[simp] theorem State.afterPop16_outcome (s : State) : s.afterPop16.outcome = s.outcome := by
  simp [State.afterPop16_eq]

@[simp] theorem State.afterPop16_reg (s : State) (r : Reg8) : s.afterPop16.reg r = s.reg r := by
  simp [State.afterPop16_eq]

@[simp] theorem State.afterPop16_f (s : State) : s.afterPop16.regs.f = s.regs.f := by
  simp [State.afterPop16_eq]

@[simp] theorem State.afterPop16_pc (s : State) : s.afterPop16.regs.pc = s.regs.pc := by
  simp [State.afterPop16_eq]

@[simp] theorem State.afterPop16_ime (s : State) : s.afterPop16.regs.ime = s.regs.ime := by
  simp [State.afterPop16_eq]

@[simp] theorem State.afterPop16_halted (s : State) : s.afterPop16.regs.halted = s.regs.halted := by
  simp [State.afterPop16_eq]

/-- `pop16()` is the little-endian word at SP (20_memory.md R75, R77). -/
theorem State.pop16_eq (s : State) : s.pop16 = s.peekWord s.regs.sp := by
  simp only [State.pop16, State.afterPop8, State.setSp_sp, State.peekWord]
  rfl

end Sys2Proof.Machine
end

