-- ==== Sys2Proof/Laws/Families.lean ====
section
/-! SUPPORT. The 512 constructors of `Instr` by family: what `exec` does with each family, and the case principle that
replaces a split into 512 constructors by one case per family. -/

namespace Sys2Proof.Machine

/-! ### `exec` by family -/

theorem exec_ldReg (dst : Reg8) (src : Reg8) (s : State) : exec (.ldReg dst src) s = loadReg dst src s := by
  cases dst <;> cases src <;> rfl

theorem exec_ldRegImm (r : Reg8) (v : Byte) (s : State) : exec (.ldRegImm r v) s = loadRegImm r v s := by
  cases r <;> rfl

theorem exec_ldRegHl (r : Reg8) (s : State) : exec (.ldRegHl r) s = loadRegHl r s := by
  cases r <;> rfl

theorem exec_ldHlReg (r : Reg8) (s : State) : exec (.ldHlReg r) s = storeHlReg r s := by
  cases r <;> rfl

theorem exec_aluReg (op : AluOp) (r : Reg8) (s : State) : exec (.aluReg op r) s = aluReg op r s := by
  cases op <;> cases r <;> rfl

theorem exec_aluHl (op : AluOp) (s : State) : exec (.aluHl op) s = aluHl op s := by
  cases op <;> rfl

theorem exec_aluImm (op : AluOp) (v : Byte) (s : State) : exec (.aluImm op v) s = aluImm op v s := by
  cases op <;> rfl

theorem exec_incReg (r : Reg8) (s : State) : exec (.incReg r) s = incReg r s := by
  cases r <;> rfl

theorem exec_decReg (r : Reg8) (s : State) : exec (.decReg r) s = decReg r s := by
  cases r <;> rfl

theorem exec_ldPair (p : Pair) (w : Word) (s : State) : exec (.ldPair p w) s = loadPairImm p w s := by
  cases p <;> rfl

theorem exec_addHl (p : Pair) (s : State) : exec (.addHl p) s = addHlPair p s := by
  cases p <;> rfl

theorem exec_incPair (p : Pair) (s : State) : exec (.incPair p) s = incPair p s := by
  cases p <;> rfl

theorem exec_decPair (p : Pair) (s : State) : exec (.decPair p) s = decPair p s := by
  cases p <;> rfl

theorem exec_push (p : StackPair) (s : State) : exec (.push p) s = pushPair p s := by
  cases p <;> rfl

theorem exec_pop (p : StackPair) (s : State) : exec (.pop p) s = popPair p s := by
  cases p <;> rfl

theorem exec_jrCond (cc : Cond) (v : Byte) (s : State) : exec (.jrCond cc v) s = jumpRelCond cc v s := by
  cases cc <;> rfl

theorem exec_jpCond (cc : Cond) (w : Word) (s : State) : exec (.jpCond cc w) s = jumpCond cc w s := by
  cases cc <;> rfl

theorem exec_callCond (cc : Cond) (w : Word) (s : State) : exec (.callCond cc w) s = callCond cc w s := by
  cases cc <;> rfl

theorem exec_retCond (cc : Cond) (s : State) : exec (.retCond cc) s = returnCond cc s := by
  cases cc <;> rfl

theorem exec_rst (t : Vec) (s : State) : exec (.rst t) s = restart t s := by
  cases t <;> rfl

theorem exec_rotReg (op : RotOp) (r : Reg8) (s : State) : exec (.rotReg op r) s = rotReg op r s := by
  cases op <;> cases r <;> rfl

theorem exec_rotHl (op : RotOp) (s : State) : exec (.rotHl op) s = rotHl op s := by
  cases op <;> rfl

theorem exec_bitReg (b : BitIndex) (r : Reg8) (s : State) : exec (.bitReg b r) s = bitReg b r s := by
  cases b <;> cases r <;> rfl

theorem exec_bitHl (b : BitIndex) (s : State) : exec (.bitHl b) s = bitHl b s := by
  cases b <;> rfl

theorem exec_resReg (b : BitIndex) (r : Reg8) (s : State) : exec (.resReg b r) s = resReg b r s := by
  cases b <;> cases r <;> rfl

theorem exec_resHl (b : BitIndex) (s : State) : exec (.resHl b) s = resHl b s := by
  cases b <;> rfl

theorem exec_setReg (b : BitIndex) (r : Reg8) (s : State) : exec (.setReg b r) s = setReg b r s := by
  cases b <;> cases r <;> rfl

theorem exec_setHl (b : BitIndex) (s : State) : exec (.setHl b) s = setHl b s := by
  cases b <;> rfl

theorem exec_unimplemented (u : Unimpl) (s : State) : exec (.unimplemented u) s = raiseUnimplemented s := by
  cases u <;> rfl

/-! ### `exec` of the instructions that stand alone -/

theorem exec_nop (s : State) : exec .nop s = noOperation s := rfl

theorem exec_ldMemBcA (s : State) : exec .ldMemBcA s = storeA 2 s.bc s := rfl

theorem exec_rlca (s : State) : exec .rlca s = rotA .rlc s := rfl

theorem exec_ldMemA16Sp (a : Word) (s : State) : exec (.ldMemA16Sp a) s = storeSp a s := rfl

theorem exec_ldAMemBc (s : State) : exec .ldAMemBc s = loadA 2 s.bc s := rfl

theorem exec_rrca (s : State) : exec .rrca s = rotA .rrc s := rfl

theorem exec_stop (x : Byte) (s : State) : exec (.stop x) s = stopEngine x s := rfl

theorem exec_ldMemDeA (s : State) : exec .ldMemDeA s = storeA 2 s.de s := rfl

theorem exec_rla (s : State) : exec .rla s = rotA .rl s := rfl

theorem exec_jrE8 (e : Byte) (s : State) : exec (.jrE8 e) s = jumpRel e s := rfl

theorem exec_ldAMemDe (s : State) : exec .ldAMemDe s = loadA 2 s.de s := rfl

theorem exec_rra (s : State) : exec .rra s = rotA .rr s := rfl

theorem exec_ldMemHlIncA (s : State) : exec .ldMemHlIncA s = storeAStep 1 s := rfl

theorem exec_daa (s : State) : exec .daa s = decimalAdjust s := rfl

theorem exec_ldAMemHlInc (s : State) : exec .ldAMemHlInc s = loadAStep 1 s := rfl

theorem exec_cpl (s : State) : exec .cpl s = complementA s := rfl

theorem exec_ldMemHlDecA (s : State) : exec .ldMemHlDecA s = storeAStep (-1) s := rfl

theorem exec_incMemHl (s : State) : exec .incMemHl s = incHl s := rfl

theorem exec_decMemHl (s : State) : exec .decMemHl s = decHl s := rfl

theorem exec_ldMemHlD8 (v : Byte) (s : State) : exec (.ldMemHlD8 v) s = storeHlImm v s := rfl

theorem exec_scf (s : State) : exec .scf s = setCarry s := rfl

theorem exec_ldAMemHlDec (s : State) : exec .ldAMemHlDec s = loadAStep (-1) s := rfl

theorem exec_ccf (s : State) : exec .ccf s = complementCarry s := rfl

theorem exec_halt (s : State) : exec .halt s = haltEngine s := rfl

theorem exec_jpA16 (a : Word) (s : State) : exec (.jpA16 a) s = jumpAbs a s := rfl

theorem exec_ret (s : State) : exec .ret s = returnFrom s := rfl

theorem exec_prefixCb (op2 : Byte) (s : State) : exec (.prefixCb op2) s = extendedOp op2 s := rfl

theorem exec_callA16 (a : Word) (s : State) : exec (.callA16 a) s = callAbs a s := rfl

theorem exec_reti (s : State) : exec .reti s = returnEnable s := rfl

theorem exec_ldhMemA8A (n : Byte) (s : State) : exec (.ldhMemA8A n) s = storeA 3 (highPage n) s := rfl

theorem exec_ldMemCA (s : State) : exec .ldMemCA s = storeA 2 (highPage s.regs.c) s := rfl

theorem exec_addSpE8 (e : Byte) (s : State) : exec (.addSpE8 e) s = addSpSigned e s := rfl

theorem exec_jpHl (s : State) : exec .jpHl s = jumpHl s := rfl

theorem exec_ldMemA16A (a : Word) (s : State) : exec (.ldMemA16A a) s = storeA 4 a s := rfl

theorem exec_ldhAMemA8 (n : Byte) (s : State) : exec (.ldhAMemA8 n) s = loadA 3 (highPage n) s := rfl

theorem exec_ldAMemC (s : State) : exec .ldAMemC s = loadA 2 (highPage s.regs.c) s := rfl

theorem exec_di (s : State) : exec .di s = setIme false s := rfl

theorem exec_ldHlSpE8 (e : Byte) (s : State) : exec (.ldHlSpE8 e) s = loadHlSpSigned e s := rfl

theorem exec_ldSpHl (s : State) : exec .ldSpHl s = loadSpHl s := rfl

theorem exec_ldAMemA16 (a : Word) (s : State) : exec (.ldAMemA16 a) s = loadA 4 a s := rfl

theorem exec_ei (s : State) : exec .ei s = setIme true s := rfl

/-- The row of the extended table that the prefix selects is one instruction with the meaning the prefix gives it
(30_encoding.md R125). -/
theorem extendedOp_eq_exec (op2 : Byte) (s : State) : extendedOp op2 s = exec (decodeExtended op2) s := by
  unfold extendedOp decodeExtended
  dsimp only
  generalize op2.toNat / 64 = g
  generalize Reg8.ofField (op2.toNat % 8) = r
  rcases g with _ | _ | _ | g <;> cases r <;>
    simp only [exec_rotReg, exec_rotHl, exec_bitReg, exec_bitHl, exec_resReg, exec_resHl, exec_setReg, exec_setHl]

/-! ### Cases by family -/

/-- To show something of every instruction, show it of each family and of each instruction that stands alone. -/
theorem Instr.forall_by_family {P : Instr → Prop}
    (h_ldReg : ∀ (dst : Reg8) (src : Reg8), P (.ldReg dst src))
    (h_ldRegImm : ∀ (r : Reg8) (v : Byte), P (.ldRegImm r v))
    (h_ldRegHl : ∀ (r : Reg8), P (.ldRegHl r))
    (h_ldHlReg : ∀ (r : Reg8), P (.ldHlReg r))
    (h_aluReg : ∀ (op : AluOp) (r : Reg8), P (.aluReg op r))
    (h_aluHl : ∀ (op : AluOp), P (.aluHl op))
    (h_aluImm : ∀ (op : AluOp) (v : Byte), P (.aluImm op v))
    (h_incReg : ∀ (r : Reg8), P (.incReg r))
    (h_decReg : ∀ (r : Reg8), P (.decReg r))
    (h_ldPair : ∀ (p : Pair) (w : Word), P (.ldPair p w))
    (h_addHl : ∀ (p : Pair), P (.addHl p))
    (h_incPair : ∀ (p : Pair), P (.incPair p))
    (h_decPair : ∀ (p : Pair), P (.decPair p))
    (h_push : ∀ (p : StackPair), P (.push p))
    (h_pop : ∀ (p : StackPair), P (.pop p))
    (h_jrCond : ∀ (cc : Cond) (v : Byte), P (.jrCond cc v))
    (h_jpCond : ∀ (cc : Cond) (w : Word), P (.jpCond cc w))
    (h_callCond : ∀ (cc : Cond) (w : Word), P (.callCond cc w))
    (h_retCond : ∀ (cc : Cond), P (.retCond cc))
    (h_rst : ∀ (t : Vec), P (.rst t))
    (h_rotReg : ∀ (op : RotOp) (r : Reg8), P (.rotReg op r))
    (h_rotHl : ∀ (op : RotOp), P (.rotHl op))
    (h_bitReg : ∀ (b : BitIndex) (r : Reg8), P (.bitReg b r))
    (h_bitHl : ∀ (b : BitIndex), P (.bitHl b))
    (h_resReg : ∀ (b : BitIndex) (r : Reg8), P (.resReg b r))
    (h_resHl : ∀ (b : BitIndex), P (.resHl b))
    (h_setReg : ∀ (b : BitIndex) (r : Reg8), P (.setReg b r))
    (h_setHl : ∀ (b : BitIndex), P (.setHl b))
    (h_unimplemented : ∀ (u : Unimpl), P (.unimplemented u))
    (h_nop : P .nop)
    (h_ldMemBcA : P .ldMemBcA)
    (h_rlca : P .rlca)
    (h_ldMemA16Sp : ∀ (a : Word), P (.ldMemA16Sp a))
    (h_ldAMemBc : P .ldAMemBc)
    (h_rrca : P .rrca)
    (h_stop : ∀ (x : Byte), P (.stop x))
    (h_ldMemDeA : P .ldMemDeA)
    (h_rla : P .rla)
    (h_jrE8 : ∀ (e : Byte), P (.jrE8 e))
    (h_ldAMemDe : P .ldAMemDe)
    (h_rra : P .rra)
    (h_ldMemHlIncA : P .ldMemHlIncA)
    (h_daa : P .daa)
    (h_ldAMemHlInc : P .ldAMemHlInc)
    (h_cpl : P .cpl)
    (h_ldMemHlDecA : P .ldMemHlDecA)
    (h_incMemHl : P .incMemHl)
    (h_decMemHl : P .decMemHl)
    (h_ldMemHlD8 : ∀ (v : Byte), P (.ldMemHlD8 v))
    (h_scf : P .scf)
    (h_ldAMemHlDec : P .ldAMemHlDec)
    (h_ccf : P .ccf)
    (h_halt : P .halt)
    (h_jpA16 : ∀ (a : Word), P (.jpA16 a))
    (h_ret : P .ret)
    (h_prefixCb : ∀ (op2 : Byte), P (.prefixCb op2))
    (h_callA16 : ∀ (a : Word), P (.callA16 a))
    (h_reti : P .reti)
    (h_ldhMemA8A : ∀ (n : Byte), P (.ldhMemA8A n))
    (h_ldMemCA : P .ldMemCA)
    (h_addSpE8 : ∀ (e : Byte), P (.addSpE8 e))
    (h_jpHl : P .jpHl)
    (h_ldMemA16A : ∀ (a : Word), P (.ldMemA16A a))
    (h_ldhAMemA8 : ∀ (n : Byte), P (.ldhAMemA8 n))
    (h_ldAMemC : P .ldAMemC)
    (h_di : P .di)
    (h_ldHlSpE8 : ∀ (e : Byte), P (.ldHlSpE8 e))
    (h_ldSpHl : P .ldSpHl)
    (h_ldAMemA16 : ∀ (a : Word), P (.ldAMemA16 a))
    (h_ei : P .ei) :
    ∀ i, P i
  | .nop => h_nop
  | .ldBcD16 w => h_ldPair .bc w
  | .ldMemBcA => h_ldMemBcA
  | .incBc => h_incPair .bc
  | .incB => h_incReg .b
  | .decB => h_decReg .b
  | .ldBD8 v => h_ldRegImm .b v
  | .rlca => h_rlca
  | .ldMemA16Sp a => h_ldMemA16Sp a
  | .addHlBc => h_addHl .bc
  | .ldAMemBc => h_ldAMemBc
  | .decBc => h_decPair .bc
  | .incC => h_incReg .c
  | .decC => h_decReg .c
  | .ldCD8 v => h_ldRegImm .c v
  | .rrca => h_rrca
  | .stop x => h_stop x
  | .ldDeD16 w => h_ldPair .de w
  | .ldMemDeA => h_ldMemDeA
  | .incDe => h_incPair .de
  | .incD => h_incReg .d
  | .decD => h_decReg .d
  | .ldDD8 v => h_ldRegImm .d v
  | .rla => h_rla
  | .jrE8 e => h_jrE8 e
  | .addHlDe => h_addHl .de
  | .ldAMemDe => h_ldAMemDe
  | .decDe => h_decPair .de
  | .incE => h_incReg .e
  | .decE => h_decReg .e
  | .ldED8 v => h_ldRegImm .e v
  | .rra => h_rra
  | .jrNzE8 e => h_jrCond .nz e
  | .ldHlD16 w => h_ldPair .hl w
  | .ldMemHlIncA => h_ldMemHlIncA
  | .incHl => h_incPair .hl
  | .incH => h_incReg .h
  | .decH => h_decReg .h
  | .ldHD8 v => h_ldRegImm .h v
  | .daa => h_daa
  | .jrZE8 e => h_jrCond .z e
  | .addHlHl => h_addHl .hl
  | .ldAMemHlInc => h_ldAMemHlInc
  | .decHl => h_decPair .hl
  | .incL => h_incReg .l
  | .decL => h_decReg .l
  | .ldLD8 v => h_ldRegImm .l v
  | .cpl => h_cpl
  | .jrNcE8 e => h_jrCond .nc e
  | .ldSpD16 w => h_ldPair .sp w
  | .ldMemHlDecA => h_ldMemHlDecA
  | .incSp => h_incPair .sp
  | .incMemHl => h_incMemHl
  | .decMemHl => h_decMemHl
  | .ldMemHlD8 v => h_ldMemHlD8 v
  | .scf => h_scf
  | .jrCE8 e => h_jrCond .c e
  | .addHlSp => h_addHl .sp
  | .ldAMemHlDec => h_ldAMemHlDec
  | .decSp => h_decPair .sp
  | .incA => h_incReg .a
  | .decA => h_decReg .a
  | .ldAD8 v => h_ldRegImm .a v
  | .ccf => h_ccf
  | .ldBB => h_ldReg .b .b
  | .ldBC => h_ldReg .b .c
  | .ldBD => h_ldReg .b .d
  | .ldBE => h_ldReg .b .e
  | .ldBH => h_ldReg .b .h
  | .ldBL => h_ldReg .b .l
  | .ldBMemHl => h_ldRegHl .b
  | .ldBA => h_ldReg .b .a
  | .ldCB => h_ldReg .c .b
  | .ldCC => h_ldReg .c .c
  | .ldCD => h_ldReg .c .d
  | .ldCE => h_ldReg .c .e
  | .ldCH => h_ldReg .c .h
  | .ldCL => h_ldReg .c .l
  | .ldCMemHl => h_ldRegHl .c
  | .ldCA => h_ldReg .c .a
  | .ldDB => h_ldReg .d .b
  | .ldDC => h_ldReg .d .c
  | .ldDD => h_ldReg .d .d
  | .ldDE => h_ldReg .d .e
  | .ldDH => h_ldReg .d .h
  | .ldDL => h_ldReg .d .l
  | .ldDMemHl => h_ldRegHl .d
  | .ldDA => h_ldReg .d .a
  | .ldEB => h_ldReg .e .b
  | .ldEC => h_ldReg .e .c
  | .ldED => h_ldReg .e .d
  | .ldEE => h_ldReg .e .e
  | .ldEH => h_ldReg .e .h
  | .ldEL => h_ldReg .e .l
  | .ldEMemHl => h_ldRegHl .e
  | .ldEA => h_ldReg .e .a
  | .ldHB => h_ldReg .h .b
  | .ldHC => h_ldReg .h .c
  | .ldHD => h_ldReg .h .d
  | .ldHE => h_ldReg .h .e
  | .ldHH => h_ldReg .h .h
  | .ldHL => h_ldReg .h .l
  | .ldHMemHl => h_ldRegHl .h
  | .ldHA => h_ldReg .h .a
  | .ldLB => h_ldReg .l .b
  | .ldLC => h_ldReg .l .c
  | .ldLD => h_ldReg .l .d
  | .ldLE => h_ldReg .l .e
  | .ldLH => h_ldReg .l .h
  | .ldLL => h_ldReg .l .l
  | .ldLMemHl => h_ldRegHl .l
  | .ldLA => h_ldReg .l .a
  | .ldMemHlB => h_ldHlReg .b
  | .ldMemHlC => h_ldHlReg .c
  | .ldMemHlD => h_ldHlReg .d
  | .ldMemHlE => h_ldHlReg .e
  | .ldMemHlH => h_ldHlReg .h
  | .ldMemHlL => h_ldHlReg .l
  | .halt => h_halt
  | .ldMemHlA => h_ldHlReg .a
  | .ldAB => h_ldReg .a .b
  | .ldAC => h_ldReg .a .c
  | .ldAD => h_ldReg .a .d
  | .ldAE => h_ldReg .a .e
  | .ldAH => h_ldReg .a .h
  | .ldAL => h_ldReg .a .l
  | .ldAMemHl => h_ldRegHl .a
  | .ldAA => h_ldReg .a .a
  | .addAB => h_aluReg .add .b
  | .addAC => h_aluReg .add .c
  | .addAD => h_aluReg .add .d
  | .addAE => h_aluReg .add .e
  | .addAH => h_aluReg .add .h
  | .addAL => h_aluReg .add .l
  | .addAMemHl => h_aluHl .add
  | .addAA => h_aluReg .add .a
  | .adcAB => h_aluReg .adc .b
  | .adcAC => h_aluReg .adc .c
  | .adcAD => h_aluReg .adc .d
  | .adcAE => h_aluReg .adc .e
  | .adcAH => h_aluReg .adc .h
  | .adcAL => h_aluReg .adc .l
  | .adcAMemHl => h_aluHl .adc
  | .adcAA => h_aluReg .adc .a
  | .subB => h_aluReg .sub .b
  | .subC => h_aluReg .sub .c
  | .subD => h_aluReg .sub .d
  | .subE => h_aluReg .sub .e
  | .subH => h_aluReg .sub .h
  | .subL => h_aluReg .sub .l
  | .subMemHl => h_aluHl .sub
  | .subA => h_aluReg .sub .a
  | .sbcAB => h_aluReg .sbc .b
  | .sbcAC => h_aluReg .sbc .c
  | .sbcAD => h_aluReg .sbc .d
  | .sbcAE => h_aluReg .sbc .e
  | .sbcAH => h_aluReg .sbc .h
  | .sbcAL => h_aluReg .sbc .l
  | .sbcAMemHl => h_aluHl .sbc
  | .sbcAA => h_aluReg .sbc .a
  | .andB => h_aluReg .and .b
  | .andC => h_aluReg .and .c
  | .andD => h_aluReg .and .d
  | .andE => h_aluReg .and .e
  | .andH => h_aluReg .and .h
  | .andL => h_aluReg .and .l
  | .andMemHl => h_aluHl .and
  | .andA => h_aluReg .and .a
  | .xorB => h_aluReg .xor .b
  | .xorC => h_aluReg .xor .c
  | .xorD => h_aluReg .xor .d
  | .xorE => h_aluReg .xor .e
  | .xorH => h_aluReg .xor .h
  | .xorL => h_aluReg .xor .l
  | .xorMemHl => h_aluHl .xor
  | .xorA => h_aluReg .xor .a
  | .orB => h_aluReg .or .b
  | .orC => h_aluReg .or .c
  | .orD => h_aluReg .or .d
  | .orE => h_aluReg .or .e
  | .orH => h_aluReg .or .h
  | .orL => h_aluReg .or .l
  | .orMemHl => h_aluHl .or
  | .orA => h_aluReg .or .a
  | .cpB => h_aluReg .cp .b
  | .cpC => h_aluReg .cp .c
  | .cpD => h_aluReg .cp .d
  | .cpE => h_aluReg .cp .e
  | .cpH => h_aluReg .cp .h
  | .cpL => h_aluReg .cp .l
  | .cpMemHl => h_aluHl .cp
  | .cpA => h_aluReg .cp .a
  | .retNz => h_retCond .nz
  | .popBc => h_pop .bc
  | .jpNzA16 a => h_jpCond .nz a
  | .jpA16 a => h_jpA16 a
  | .callNzA16 a => h_callCond .nz a
  | .pushBc => h_push .bc
  | .addAD8 v => h_aluImm .add v
  | .rst00 => h_rst .v00
  | .retZ => h_retCond .z
  | .ret => h_ret
  | .jpZA16 a => h_jpCond .z a
  | .prefixCb op2 => h_prefixCb op2
  | .callZA16 a => h_callCond .z a
  | .callA16 a => h_callA16 a
  | .adcAD8 v => h_aluImm .adc v
  | .rst08 => h_rst .v08
  | .retNc => h_retCond .nc
  | .popDe => h_pop .de
  | .jpNcA16 a => h_jpCond .nc a
  | .unimplementedD3 => h_unimplemented .d3
  | .callNcA16 a => h_callCond .nc a
  | .pushDe => h_push .de
  | .subD8 v => h_aluImm .sub v
  | .rst10 => h_rst .v10
  | .retC => h_retCond .c
  | .reti => h_reti
  | .jpCA16 a => h_jpCond .c a
  | .unimplementedDB => h_unimplemented .db
  | .callCA16 a => h_callCond .c a
  | .unimplementedDD => h_unimplemented .dd
  | .sbcAD8 v => h_aluImm .sbc v
  | .rst18 => h_rst .v18
  | .ldhMemA8A n => h_ldhMemA8A n
  | .popHl => h_pop .hl
  | .ldMemCA => h_ldMemCA
  | .unimplementedE3 => h_unimplemented .e3
  | .unimplementedE4 => h_unimplemented .e4
  | .pushHl => h_push .hl
  | .andD8 v => h_aluImm .and v
  | .rst20 => h_rst .v20
  | .addSpE8 e => h_addSpE8 e
  | .jpHl => h_jpHl
  | .ldMemA16A a => h_ldMemA16A a
  | .unimplementedEB => h_unimplemented .eb
  | .unimplementedEC => h_unimplemented .ec
  | .unimplementedED => h_unimplemented .ed
  | .xorD8 v => h_aluImm .xor v
  | .rst28 => h_rst .v28
  | .ldhAMemA8 n => h_ldhAMemA8 n
  | .popAf => h_pop .af
  | .ldAMemC => h_ldAMemC
  | .di => h_di
  | .unimplementedF4 => h_unimplemented .f4
  | .pushAf => h_push .af
  | .orD8 v => h_aluImm .or v
  | .rst30 => h_rst .v30
  | .ldHlSpE8 e => h_ldHlSpE8 e
  | .ldSpHl => h_ldSpHl
  | .ldAMemA16 a => h_ldAMemA16 a
  | .ei => h_ei
  | .unimplementedFC => h_unimplemented .fc
  | .unimplementedFD => h_unimplemented .fd
  | .cpD8 v => h_aluImm .cp v
  | .rst38 => h_rst .v38
  | .rlcB => h_rotReg .rlc .b
  | .rlcC => h_rotReg .rlc .c
  | .rlcD => h_rotReg .rlc .d
  | .rlcE => h_rotReg .rlc .e
  | .rlcH => h_rotReg .rlc .h
  | .rlcL => h_rotReg .rlc .l
  | .rlcMemHl => h_rotHl .rlc
  | .rlcA => h_rotReg .rlc .a
  | .rrcB => h_rotReg .rrc .b
  | .rrcC => h_rotReg .rrc .c
  | .rrcD => h_rotReg .rrc .d
  | .rrcE => h_rotReg .rrc .e
  | .rrcH => h_rotReg .rrc .h
  | .rrcL => h_rotReg .rrc .l
  | .rrcMemHl => h_rotHl .rrc
  | .rrcA => h_rotReg .rrc .a
  | .rlB => h_rotReg .rl .b
  | .rlC => h_rotReg .rl .c
  | .rlD => h_rotReg .rl .d
  | .rlE => h_rotReg .rl .e
  | .rlH => h_rotReg .rl .h
  | .rlL => h_rotReg .rl .l
  | .rlMemHl => h_rotHl .rl
  | .rlA => h_rotReg .rl .a
  | .rrB => h_rotReg .rr .b
  | .rrC => h_rotReg .rr .c
  | .rrD => h_rotReg .rr .d
  | .rrE => h_rotReg .rr .e
  | .rrH => h_rotReg .rr .h
  | .rrL => h_rotReg .rr .l
  | .rrMemHl => h_rotHl .rr
  | .rrA => h_rotReg .rr .a
  | .slaB => h_rotReg .sla .b
  | .slaC => h_rotReg .sla .c
  | .slaD => h_rotReg .sla .d
  | .slaE => h_rotReg .sla .e
  | .slaH => h_rotReg .sla .h
  | .slaL => h_rotReg .sla .l
  | .slaMemHl => h_rotHl .sla
  | .slaA => h_rotReg .sla .a
  | .sraB => h_rotReg .sra .b
  | .sraC => h_rotReg .sra .c
  | .sraD => h_rotReg .sra .d
  | .sraE => h_rotReg .sra .e
  | .sraH => h_rotReg .sra .h
  | .sraL => h_rotReg .sra .l
  | .sraMemHl => h_rotHl .sra
  | .sraA => h_rotReg .sra .a
  | .swapB => h_rotReg .swap .b
  | .swapC => h_rotReg .swap .c
  | .swapD => h_rotReg .swap .d
  | .swapE => h_rotReg .swap .e
  | .swapH => h_rotReg .swap .h
  | .swapL => h_rotReg .swap .l
  | .swapMemHl => h_rotHl .swap
  | .swapA => h_rotReg .swap .a
  | .srlB => h_rotReg .srl .b
  | .srlC => h_rotReg .srl .c
  | .srlD => h_rotReg .srl .d
  | .srlE => h_rotReg .srl .e
  | .srlH => h_rotReg .srl .h
  | .srlL => h_rotReg .srl .l
  | .srlMemHl => h_rotHl .srl
  | .srlA => h_rotReg .srl .a
  | .bit0B => h_bitReg .b0 .b
  | .bit0C => h_bitReg .b0 .c
  | .bit0D => h_bitReg .b0 .d
  | .bit0E => h_bitReg .b0 .e
  | .bit0H => h_bitReg .b0 .h
  | .bit0L => h_bitReg .b0 .l
  | .bit0MemHl => h_bitHl .b0
  | .bit0A => h_bitReg .b0 .a
  | .bit1B => h_bitReg .b1 .b
  | .bit1C => h_bitReg .b1 .c
  | .bit1D => h_bitReg .b1 .d
  | .bit1E => h_bitReg .b1 .e
  | .bit1H => h_bitReg .b1 .h
  | .bit1L => h_bitReg .b1 .l
  | .bit1MemHl => h_bitHl .b1
  | .bit1A => h_bitReg .b1 .a
  | .bit2B => h_bitReg .b2 .b
  | .bit2C => h_bitReg .b2 .c
  | .bit2D => h_bitReg .b2 .d
  | .bit2E => h_bitReg .b2 .e
  | .bit2H => h_bitReg .b2 .h
  | .bit2L => h_bitReg .b2 .l
  | .bit2MemHl => h_bitHl .b2
  | .bit2A => h_bitReg .b2 .a
  | .bit3B => h_bitReg .b3 .b
  | .bit3C => h_bitReg .b3 .c
  | .bit3D => h_bitReg .b3 .d
  | .bit3E => h_bitReg .b3 .e
  | .bit3H => h_bitReg .b3 .h
  | .bit3L => h_bitReg .b3 .l
  | .bit3MemHl => h_bitHl .b3
  | .bit3A => h_bitReg .b3 .a
  | .bit4B => h_bitReg .b4 .b
  | .bit4C => h_bitReg .b4 .c
  | .bit4D => h_bitReg .b4 .d
  | .bit4E => h_bitReg .b4 .e
  | .bit4H => h_bitReg .b4 .h
  | .bit4L => h_bitReg .b4 .l
  | .bit4MemHl => h_bitHl .b4
  | .bit4A => h_bitReg .b4 .a
  | .bit5B => h_bitReg .b5 .b
  | .bit5C => h_bitReg .b5 .c
  | .bit5D => h_bitReg .b5 .d
  | .bit5E => h_bitReg .b5 .e
  | .bit5H => h_bitReg .b5 .h
  | .bit5L => h_bitReg .b5 .l
  | .bit5MemHl => h_bitHl .b5
  | .bit5A => h_bitReg .b5 .a
  | .bit6B => h_bitReg .b6 .b
  | .bit6C => h_bitReg .b6 .c
  | .bit6D => h_bitReg .b6 .d
  | .bit6E => h_bitReg .b6 .e
  | .bit6H => h_bitReg .b6 .h
  | .bit6L => h_bitReg .b6 .l
  | .bit6MemHl => h_bitHl .b6
  | .bit6A => h_bitReg .b6 .a
  | .bit7B => h_bitReg .b7 .b
  | .bit7C => h_bitReg .b7 .c
  | .bit7D => h_bitReg .b7 .d
  | .bit7E => h_bitReg .b7 .e
  | .bit7H => h_bitReg .b7 .h
  | .bit7L => h_bitReg .b7 .l
  | .bit7MemHl => h_bitHl .b7
  | .bit7A => h_bitReg .b7 .a
  | .res0B => h_resReg .b0 .b
  | .res0C => h_resReg .b0 .c
  | .res0D => h_resReg .b0 .d
  | .res0E => h_resReg .b0 .e
  | .res0H => h_resReg .b0 .h
  | .res0L => h_resReg .b0 .l
  | .res0MemHl => h_resHl .b0
  | .res0A => h_resReg .b0 .a
  | .res1B => h_resReg .b1 .b
  | .res1C => h_resReg .b1 .c
  | .res1D => h_resReg .b1 .d
  | .res1E => h_resReg .b1 .e
  | .res1H => h_resReg .b1 .h
  | .res1L => h_resReg .b1 .l
  | .res1MemHl => h_resHl .b1
  | .res1A => h_resReg .b1 .a
  | .res2B => h_resReg .b2 .b
  | .res2C => h_resReg .b2 .c
  | .res2D => h_resReg .b2 .d
  | .res2E => h_resReg .b2 .e
  | .res2H => h_resReg .b2 .h
  | .res2L => h_resReg .b2 .l
  | .res2MemHl => h_resHl .b2
  | .res2A => h_resReg .b2 .a
  | .res3B => h_resReg .b3 .b
  | .res3C => h_resReg .b3 .c
  | .res3D => h_resReg .b3 .d
  | .res3E => h_resReg .b3 .e
  | .res3H => h_resReg .b3 .h
  | .res3L => h_resReg .b3 .l
  | .res3MemHl => h_resHl .b3
  | .res3A => h_resReg .b3 .a
  | .res4B => h_resReg .b4 .b
  | .res4C => h_resReg .b4 .c
  | .res4D => h_resReg .b4 .d
  | .res4E => h_resReg .b4 .e
  | .res4H => h_resReg .b4 .h
  | .res4L => h_resReg .b4 .l
  | .res4MemHl => h_resHl .b4
  | .res4A => h_resReg .b4 .a
  | .res5B => h_resReg .b5 .b
  | .res5C => h_resReg .b5 .c
  | .res5D => h_resReg .b5 .d
  | .res5E => h_resReg .b5 .e
  | .res5H => h_resReg .b5 .h
  | .res5L => h_resReg .b5 .l
  | .res5MemHl => h_resHl .b5
  | .res5A => h_resReg .b5 .a
  | .res6B => h_resReg .b6 .b
  | .res6C => h_resReg .b6 .c
  | .res6D => h_resReg .b6 .d
  | .res6E => h_resReg .b6 .e
  | .res6H => h_resReg .b6 .h
  | .res6L => h_resReg .b6 .l
  | .res6MemHl => h_resHl .b6
  | .res6A => h_resReg .b6 .a
  | .res7B => h_resReg .b7 .b
  | .res7C => h_resReg .b7 .c
  | .res7D => h_resReg .b7 .d
  | .res7E => h_resReg .b7 .e
  | .res7H => h_resReg .b7 .h
  | .res7L => h_resReg .b7 .l
  | .res7MemHl => h_resHl .b7
  | .res7A => h_resReg .b7 .a
  | .set0B => h_setReg .b0 .b
  | .set0C => h_setReg .b0 .c
  | .set0D => h_setReg .b0 .d
  | .set0E => h_setReg .b0 .e
  | .set0H => h_setReg .b0 .h
  | .set0L => h_setReg .b0 .l
  | .set0MemHl => h_setHl .b0
  | .set0A => h_setReg .b0 .a
  | .set1B => h_setReg .b1 .b
  | .set1C => h_setReg .b1 .c
  | .set1D => h_setReg .b1 .d
  | .set1E => h_setReg .b1 .e
  | .set1H => h_setReg .b1 .h
  | .set1L => h_setReg .b1 .l
  | .set1MemHl => h_setHl .b1
  | .set1A => h_setReg .b1 .a
  | .set2B => h_setReg .b2 .b
  | .set2C => h_setReg .b2 .c
  | .set2D => h_setReg .b2 .d
  | .set2E => h_setReg .b2 .e
  | .set2H => h_setReg .b2 .h
  | .set2L => h_setReg .b2 .l
  | .set2MemHl => h_setHl .b2
  | .set2A => h_setReg .b2 .a
  | .set3B => h_setReg .b3 .b
  | .set3C => h_setReg .b3 .c
  | .set3D => h_setReg .b3 .d
  | .set3E => h_setReg .b3 .e
  | .set3H => h_setReg .b3 .h
  | .set3L => h_setReg .b3 .l
  | .set3MemHl => h_setHl .b3
  | .set3A => h_setReg .b3 .a
  | .set4B => h_setReg .b4 .b
  | .set4C => h_setReg .b4 .c
  | .set4D => h_setReg .b4 .d
  | .set4E => h_setReg .b4 .e
  | .set4H => h_setReg .b4 .h
  | .set4L => h_setReg .b4 .l
  | .set4MemHl => h_setHl .b4
  | .set4A => h_setReg .b4 .a
  | .set5B => h_setReg .b5 .b
  | .set5C => h_setReg .b5 .c
  | .set5D => h_setReg .b5 .d
  | .set5E => h_setReg .b5 .e
  | .set5H => h_setReg .b5 .h
  | .set5L => h_setReg .b5 .l
  | .set5MemHl => h_setHl .b5
  | .set5A => h_setReg .b5 .a
  | .set6B => h_setReg .b6 .b
  | .set6C => h_setReg .b6 .c
  | .set6D => h_setReg .b6 .d
  | .set6E => h_setReg .b6 .e
  | .set6H => h_setReg .b6 .h
  | .set6L => h_setReg .b6 .l
  | .set6MemHl => h_setHl .b6
  | .set6A => h_setReg .b6 .a
  | .set7B => h_setReg .b7 .b
  | .set7C => h_setReg .b7 .c
  | .set7D => h_setReg .b7 .d
  | .set7E => h_setReg .b7 .e
  | .set7H => h_setReg .b7 .h
  | .set7L => h_setReg .b7 .l
  | .set7MemHl => h_setHl .b7
  | .set7A => h_setReg .b7 .a

end Sys2Proof.Machine
end

