-- ==== Sys2Proof/Laws/Frames.lean ====
section
/-! SUPPORT. How the frames of Safety.lean are met: no access, reads at one or two addresses, stores at one or two. -/

namespace Sys2Proof.Machine

theorem memoryKept_of {s t : State} (hb : t.bus = s.bus) (hd : t.display = s.display)
    (hh : t.ioHistory = s.ioHistory) : MemoryKept s t :=
  ⟨hb, hd, hh, State.peek_congr hb hd hh⟩

theorem reads_of {s t : State} (addrs : List Word) (hb : t.bus = s.bus) (hd : t.display = s.display)
    (hh : t.ioHistory = (addrs.foldl State.afterRead s).ioHistory) : Reads addrs s t :=
  ⟨hb, hd, hh, fun _ h => State.peek_congr_internal hb hd h⟩

/-- What a list of writes does not touch it keeps. -/
theorem foldl_store_peek (writes : List (Word × Byte)) (s : State) {b : Word}
    (h : ∀ c ∈ writes, storeTouches c.1 b = false) :
    (writes.foldl (fun s c => s.store c.1 c.2) s).peek b = s.peek b := by
  induction writes generalizing s with
  | nil => rfl
  | cons c cs ih =>
    simp only [List.mem_cons, forall_eq_or_imp] at h
    exact (ih _ h.2).trans (State.store_peek_other s c.2 h.1)

theorem stores_of {s t : State} (writes : List (Word × Byte))
    (hb : t.bus = (writes.foldl (fun s c => s.store c.1 c.2) s).bus)
    (hd : t.display = (writes.foldl (fun s c => s.store c.1 c.2) s).display)
    (hh : t.ioHistory = (writes.foldl (fun s c => s.store c.1 c.2) s).ioHistory) : Stores writes s t :=
  ⟨hb, hd, hh, fun _ h => (State.peek_congr hb hd hh _).trans (foldl_store_peek writes s h)⟩

/-- A push is its two stores, high byte first (00_scope.md R15). -/
theorem State.push16_memory (s : State) (v : Word) :
    (s.push16 v).bus = ((s.store (s.regs.sp - 1) (hiByte v)).store (s.regs.sp - 2) (loByte v)).bus ∧
      (s.push16 v).display =
        ((s.store (s.regs.sp - 1) (hiByte v)).store (s.regs.sp - 2) (loByte v)).display ∧
      (s.push16 v).ioHistory =
        ((s.store (s.regs.sp - 1) (hiByte v)).store (s.regs.sp - 2) (loByte v)).ioHistory := by
  have hsp : s.regs.sp - 1 - 1 = s.regs.sp - 2 := by
    generalize s.regs.sp = x
    bv_omega
  rw [State.push16_eq, hsp]
  have h1 := State.store_congr (s := s) (t := s.setSp (s.regs.sp - 1)) rfl rfl rfl (s.regs.sp - 1) (hiByte v)
  exact State.store_congr (s := s.store (s.regs.sp - 1) (hiByte v))
    (t := ((s.setSp (s.regs.sp - 1)).store (s.regs.sp - 1) (hiByte v)).setSp (s.regs.sp - 2))
    h1.1 h1.2.1 h1.2.2 _ _

theorem push16_stores (s : State) (v : Word) {t : State} (hb : t.bus = (s.push16 v).bus)
    (hd : t.display = (s.push16 v).display) (hh : t.ioHistory = (s.push16 v).ioHistory) :
    Stores [(s.regs.sp - 1, hiByte v), (s.regs.sp - 2, loByte v)] s t :=
  have h := s.push16_memory v
  stores_of _ (hb.trans h.1) (hd.trans h.2.1) (hh.trans h.2.2)

/-- A pop is its two reads (00_scope.md R15). -/
theorem State.afterPop16_ioHistory (s : State) :
    s.afterPop16.ioHistory = ((s.afterRead s.regs.sp).afterRead (s.regs.sp + 1)).ioHistory := by
  rw [State.afterPop16_eq]
  rfl

theorem afterPop16_reads (s : State) {t : State} (hb : t.bus = s.bus) (hd : t.display = s.display)
    (hh : t.ioHistory = s.afterPop16.ioHistory) : Reads [s.regs.sp, s.regs.sp + 1] s t :=
  reads_of _ hb hd (hh.trans s.afterPop16_ioHistory)

/-! ### A state with the registers of another -/

section

variable (u : State) (b : AddressSpace) (d : Display) (h : List IoEvent) (o : Option StepOutcome)

@[simp] theorem State.reg_mk (r : Reg8) :
    ({ regs := u.regs, bus := b, display := d, ioHistory := h, outcome := o } : State).reg r = u.reg r := by
  cases r <;> rfl

@[simp] theorem State.fz_mk :
    ({ regs := u.regs, bus := b, display := d, ioHistory := h, outcome := o } : State).fz = u.fz := rfl

@[simp] theorem State.fn_mk :
    ({ regs := u.regs, bus := b, display := d, ioHistory := h, outcome := o } : State).fn = u.fn := rfl

@[simp] theorem State.fh_mk :
    ({ regs := u.regs, bus := b, display := d, ioHistory := h, outcome := o } : State).fh = u.fh := rfl

@[simp] theorem State.fc_mk :
    ({ regs := u.regs, bus := b, display := d, ioHistory := h, outcome := o } : State).fc = u.fc := rfl

@[simp] theorem State.hl_mk :
    ({ regs := u.regs, bus := b, display := d, ioHistory := h, outcome := o } : State).hl = u.hl := rfl

@[simp] theorem State.pair_mk (p : Pair) :
    ({ regs := u.regs, bus := b, display := d, ioHistory := h, outcome := o } : State).pair p = u.pair p := by
  cases p <;> rfl

@[simp] theorem State.stackPair_mk (p : StackPair) :
    ({ regs := u.regs, bus := b, display := d, ioHistory := h, outcome := o } : State).stackPair p = u.stackPair p := by
  cases p <;> rfl

end

/-! ### Completion, registers and flags -/

/-- An instruction whose meaning finishes completes in the state it leaves. -/
theorem completes_finish {i : Instr} {s u : State} {n : Nat} {Q : State → Prop} (h : exec i s = finish n u)
    (hq : Q { u with outcome := some (.cycles n) }) : Completes i s n Q :=
  ⟨_, h, rfl, hq⟩

theorem regsKeptBut_of {written : List Reg8} {s t u : State} (h : t.regs = u.regs)
    (hk : ∀ r, r ∉ written → u.reg r = s.reg r) : RegsKeptBut written s t := fun r hr =>
  (State.reg_of_regs h r).trans (hk r hr)

theorem flagsBecome_of {z n h c : Bool} {s t u : State} (hr : t.regs = u.regs)
    (hf : u.fz = z ∧ u.fn = n ∧ u.fh = h ∧ u.fc = c ∧ u.regs.f &&& 0x0F = s.regs.f &&& 0x0F) :
    FlagsBecome z n h c s t := by
  unfold FlagsBecome State.fz State.fn State.fh State.fc
  rw [hr]
  exact hf

@[simp] theorem putBit_low7 (v : Byte) (b : Bool) : putBit v 7 b &&& 15#8 = v &&& 15#8 :=
  putBit_low v 7 b (by decide) (by decide)

@[simp] theorem putBit_low6 (v : Byte) (b : Bool) : putBit v 6 b &&& 15#8 = v &&& 15#8 :=
  putBit_low v 6 b (by decide) (by decide)

@[simp] theorem putBit_low5 (v : Byte) (b : Bool) : putBit v 5 b &&& 15#8 = v &&& 15#8 :=
  putBit_low v 5 b (by decide) (by decide)

@[simp] theorem putBit_low4 (v : Byte) (b : Bool) : putBit v 4 b &&& 15#8 = v &&& 15#8 :=
  putBit_low v 4 b (by decide) (by decide)

end Sys2Proof.Machine
end

