-- ==== Sys2Proof/Laws/Exec.lean ====
section
/-! SUPPORT. What executing any instruction can do, said once: it completes with the effect bounded below, or it halts the
engine, or it is an opcode with no table entry. The whole-machine rules follow from this. -/

namespace Sys2Proof.Machine

/-- `u` has the address space, the display and the history of `s` after these reads and then these writes. -/
def Accesses (reads : List Word) (writes : List (Word × Byte)) (s u : State) : Prop :=
  let m := writes.foldl (fun s c => s.store c.1 c.2) (reads.foldl State.afterRead s)
  u.bus = m.bus ∧ u.display = m.display ∧ u.ioHistory = m.ioHistory

/-- What an instruction writes to IME, if it writes it (45_system.md R273, R274, 44_control.md R260). -/
def imeWritten : Instr → Option Bool
  | .di => some false
  | .ei => some true
  | .reti => some true
  | _ => none

/-- What a completed instruction `i` may do from `s` to `u`: the halt latch kept, IME as `imeWritten` says, the low nibble
of F kept but by POP AF, and its stores at its own addresses. -/
structure InstrEffect (i : Instr) (s u : State) : Prop where
  halted : u.regs.halted = s.regs.halted
  ime : u.regs.ime = (imeWritten i).getD s.regs.ime
  flags : (i = .popAf ∧ u.regs.f = s.peek s.regs.sp &&& 0xF0) ∨
    (i ≠ .popAf ∧ u.regs.f &&& 0x0F = s.regs.f &&& 0x0F)
  memory : ∃ reads writes, writes.map Prod.fst = storedAddrs i s ∧ Accesses reads writes s u

/-- The three ways `exec` answers. -/
def ExecAnswers (i : Instr) (s : State) : Prop :=
  (∃ n u, 1 ≤ n ∧ exec i s = finish n u ∧ InstrEffect i s u) ∨
    ((i = .halt ∨ ∃ x, i = .stop x) ∧ exec i s = haltEngine s) ∨
    ∃ v, i = .unimplemented v ∧ exec i s = raiseUnimplemented s

/-- An instruction that neither pops AF nor writes IME. -/
theorem InstrEffect.mk_plain {i : Instr} {s u : State} (reads : List Word) (writes : List (Word × Byte))
    (hi : imeWritten i = none) (hp : i ≠ .popAf) (hw : writes.map Prod.fst = storedAddrs i s)
    (hh : u.regs.halted = s.regs.halted) (hm : u.regs.ime = s.regs.ime)
    (hf : u.regs.f &&& 0x0F = s.regs.f &&& 0x0F) (ha : Accesses reads writes s u) : InstrEffect i s u :=
  ⟨hh, by rw [hi]; exact hm, .inr ⟨hp, hf⟩, reads, writes, hw, ha⟩

theorem State.push16_accesses (s : State) (v : Word) {u : State} (hb : u.bus = (s.push16 v).bus)
    (hd : u.display = (s.push16 v).display) (hh : u.ioHistory = (s.push16 v).ioHistory) :
    Accesses [] [(s.regs.sp - 1, hiByte v), (s.regs.sp - 2, loByte v)] s u :=
  have h := s.push16_memory v
  ⟨hb.trans h.1, hd.trans h.2.1, hh.trans h.2.2⟩

theorem State.afterPop16_accesses (s : State) {u : State} (hb : u.bus = s.bus) (hd : u.display = s.display)
    (hh : u.ioHistory = s.afterPop16.ioHistory) : Accesses [s.regs.sp, s.regs.sp + 1] [] s u := by
  refine ⟨?_, ?_, hh.trans s.afterPop16_ioHistory⟩ <;> simp [hb, hd]

/-- An instruction that completes, and neither pops AF nor writes IME. -/
theorem execAnswers_plain {i : Instr} {s u : State} {n : Nat} (reads : List Word) (writes : List (Word × Byte))
    (he : exec i s = finish n u) (hn : 1 ≤ n) (hi : imeWritten i = none) (hp : i ≠ .popAf)
    (hw : writes.map Prod.fst = storedAddrs i s) (hh : u.regs.halted = s.regs.halted)
    (hm : u.regs.ime = s.regs.ime) (hf : u.regs.f &&& 0x0F = s.regs.f &&& 0x0F)
    (ha : Accesses reads writes s u) : ExecAnswers i s :=
  .inl ⟨n, u, hn, he, .mk_plain reads writes hi hp hw hh hm hf ha⟩

theorem applyAlu_keeps (op : AluOp) (b : Byte) (s : State) :
    (applyAlu op b s).regs.halted = s.regs.halted ∧ (applyAlu op b s).regs.ime = s.regs.ime ∧
      (applyAlu op b s).regs.f &&& 0x0F = s.regs.f &&& 0x0F ∧ (applyAlu op b s).bus = s.bus ∧
      (applyAlu op b s).display = s.display ∧ (applyAlu op b s).ioHistory = s.ioHistory := by
  cases op <;> simp [applyAlu]

theorem answers_ldReg (dst : Reg8) (src : Reg8) (s : State) : ExecAnswers (.ldReg dst src) s :=
  execAnswers_plain [] [] (exec_ldReg dst src s) (by decide) (by cases dst <;> cases src <;> rfl)
    (by cases dst <;> cases src <;> nofun) (by cases dst <;> cases src <;> rfl)
    (by simp) (by simp) (by simp) (by simp [Accesses])

theorem answers_ldRegImm (r : Reg8) (v : Byte) (s : State) : ExecAnswers (.ldRegImm r v) s :=
  execAnswers_plain [] [] (exec_ldRegImm r v s) (by decide) (by cases r <;> rfl) (by cases r <;> nofun)
    (by cases r <;> rfl)
    (by simp) (by simp) (by simp) (by simp [Accesses])

theorem answers_ldRegHl (r : Reg8) (s : State) : ExecAnswers (.ldRegHl r) s :=
  execAnswers_plain [s.hl] [] (exec_ldRegHl r s) (by decide) (by cases r <;> rfl) (by cases r <;> nofun)
    (by cases r <;> rfl)
    (by simp) (by simp) (by simp) (by simp [Accesses])

theorem answers_ldHlReg (r : Reg8) (s : State) : ExecAnswers (.ldHlReg r) s :=
  execAnswers_plain [] [(s.hl, s.reg r)] (exec_ldHlReg r s) (by decide) (by cases r <;> rfl)
    (by cases r <;> nofun) (by cases r <;> rfl)
    (by simp) (by simp) (by simp) (by simp [Accesses])

theorem answers_incReg (r : Reg8) (s : State) : ExecAnswers (.incReg r) s :=
  execAnswers_plain [] [] (exec_incReg r s) (by decide) (by cases r <;> rfl) (by cases r <;> nofun)
    (by cases r <;> rfl)
    (by simp [incFlags]) (by simp [incFlags]) (by simp [incFlags]) (by simp [Accesses, incFlags])

theorem answers_decReg (r : Reg8) (s : State) : ExecAnswers (.decReg r) s :=
  execAnswers_plain [] [] (exec_decReg r s) (by decide) (by cases r <;> rfl) (by cases r <;> nofun)
    (by cases r <;> rfl)
    (by simp [decFlags]) (by simp [decFlags]) (by simp [decFlags]) (by simp [Accesses, decFlags])

theorem answers_ldPair (p : Pair) (w : Word) (s : State) : ExecAnswers (.ldPair p w) s :=
  execAnswers_plain [] [] (exec_ldPair p w s) (by decide) (by cases p <;> rfl) (by cases p <;> nofun)
    (by cases p <;> rfl)
    (by simp) (by simp) (by simp) (by simp [Accesses])

theorem answers_addHl (p : Pair) (s : State) : ExecAnswers (.addHl p) s :=
  execAnswers_plain [] [] (exec_addHl p s) (by decide) (by cases p <;> rfl) (by cases p <;> nofun)
    (by cases p <;> rfl)
    (by simp) (by simp) (by simp) (by simp [Accesses])

theorem answers_incPair (p : Pair) (s : State) : ExecAnswers (.incPair p) s :=
  execAnswers_plain [] [] (exec_incPair p s) (by decide) (by cases p <;> rfl) (by cases p <;> nofun)
    (by cases p <;> rfl)
    (by simp) (by simp) (by simp) (by simp [Accesses])

theorem answers_decPair (p : Pair) (s : State) : ExecAnswers (.decPair p) s :=
  execAnswers_plain [] [] (exec_decPair p s) (by decide) (by cases p <;> rfl) (by cases p <;> nofun)
    (by cases p <;> rfl)
    (by simp) (by simp) (by simp) (by simp [Accesses])

theorem answers_rotReg (op : RotOp) (r : Reg8) (s : State) : ExecAnswers (.rotReg op r) s :=
  execAnswers_plain [] [] (exec_rotReg op r s) (by decide) (by cases op <;> cases r <;> rfl)
    (by cases op <;> cases r <;> nofun) (by cases op <;> cases r <;> rfl)
    (by simp [rotFlags]) (by simp [rotFlags]) (by simp [rotFlags]) (by simp [Accesses, rotFlags])

theorem answers_rotHl (op : RotOp) (s : State) : ExecAnswers (.rotHl op) s :=
  execAnswers_plain [s.hl] [(s.hl, rotResult op (s.peek s.hl) s.fc)] (exec_rotHl op s) (by decide)
    (by cases op <;> rfl) (by cases op <;> nofun) (by cases op <;> rfl)
    (by simp [rotFlags]) (by simp [rotFlags]) (by simp [rotFlags]) (by simp [Accesses, rotFlags])

theorem answers_bitReg (b : BitIndex) (r : Reg8) (s : State) : ExecAnswers (.bitReg b r) s :=
  execAnswers_plain [] [] (exec_bitReg b r s) (by decide) (by cases b <;> cases r <;> rfl)
    (by cases b <;> cases r <;> nofun) (by cases b <;> cases r <;> rfl)
    (by simp [bitFlags]) (by simp [bitFlags]) (by simp [bitFlags]) (by simp [Accesses, bitFlags])

theorem answers_bitHl (b : BitIndex) (s : State) : ExecAnswers (.bitHl b) s :=
  execAnswers_plain [s.hl] [] (exec_bitHl b s) (by decide) (by cases b <;> rfl) (by cases b <;> nofun)
    (by cases b <;> rfl)
    (by simp [bitFlags]) (by simp [bitFlags]) (by simp [bitFlags]) (by simp [Accesses, bitFlags])

theorem answers_resReg (b : BitIndex) (r : Reg8) (s : State) : ExecAnswers (.resReg b r) s :=
  execAnswers_plain [] [] (exec_resReg b r s) (by decide) (by cases b <;> cases r <;> rfl)
    (by cases b <;> cases r <;> nofun) (by cases b <;> cases r <;> rfl)
    (by simp) (by simp) (by simp) (by simp [Accesses])

theorem answers_resHl (b : BitIndex) (s : State) : ExecAnswers (.resHl b) s :=
  execAnswers_plain [s.hl] [(s.hl, putBit (s.peek s.hl) (bitNumber b) false)] (exec_resHl b s) (by decide)
    (by cases b <;> rfl) (by cases b <;> nofun) (by cases b <;> rfl)
    (by simp) (by simp) (by simp) (by simp [Accesses])

theorem answers_setReg (b : BitIndex) (r : Reg8) (s : State) : ExecAnswers (.setReg b r) s :=
  execAnswers_plain [] [] (exec_setReg b r s) (by decide) (by cases b <;> cases r <;> rfl)
    (by cases b <;> cases r <;> nofun) (by cases b <;> cases r <;> rfl)
    (by simp) (by simp) (by simp) (by simp [Accesses])

theorem answers_setHl (b : BitIndex) (s : State) : ExecAnswers (.setHl b) s :=
  execAnswers_plain [s.hl] [(s.hl, putBit (s.peek s.hl) (bitNumber b) true)] (exec_setHl b s) (by decide)
    (by cases b <;> rfl) (by cases b <;> nofun) (by cases b <;> rfl)
    (by simp) (by simp) (by simp) (by simp [Accesses])

theorem answers_nop (s : State) : ExecAnswers .nop s :=
  execAnswers_plain [] [] (exec_nop s) (by decide) (by rfl) (by nofun) (by rfl)
    (by simp) (by simp) (by simp) (by simp [Accesses])

theorem answers_ldMemBcA (s : State) : ExecAnswers .ldMemBcA s :=
  execAnswers_plain [] [(s.bc, s.regs.a)] (exec_ldMemBcA s) (by decide) (by rfl) (by nofun) (by rfl)
    (by simp) (by simp) (by simp) (by simp [Accesses])

theorem answers_rlca (s : State) : ExecAnswers .rlca s :=
  execAnswers_plain [] [] (exec_rlca s) (by decide) (by rfl) (by nofun) (by rfl)
    (by simp) (by simp) (by simp) (by simp [Accesses])

theorem answers_rrca (s : State) : ExecAnswers .rrca s :=
  execAnswers_plain [] [] (exec_rrca s) (by decide) (by rfl) (by nofun) (by rfl)
    (by simp) (by simp) (by simp) (by simp [Accesses])

theorem answers_rla (s : State) : ExecAnswers .rla s :=
  execAnswers_plain [] [] (exec_rla s) (by decide) (by rfl) (by nofun) (by rfl)
    (by simp) (by simp) (by simp) (by simp [Accesses])

theorem answers_rra (s : State) : ExecAnswers .rra s :=
  execAnswers_plain [] [] (exec_rra s) (by decide) (by rfl) (by nofun) (by rfl)
    (by simp) (by simp) (by simp) (by simp [Accesses])

theorem answers_ldMemA16Sp (a : Word) (s : State) : ExecAnswers (.ldMemA16Sp a) s :=
  execAnswers_plain [] [(a, loByte s.regs.sp), (a + 1, hiByte s.regs.sp)] (exec_ldMemA16Sp a s) (by decide)
    (by rfl) (by nofun) (by rfl)
    (by simp [State.storeWord]) (by simp [State.storeWord]) (by simp [State.storeWord])
    (by simp [Accesses, State.storeWord])

theorem answers_ldAMemBc (s : State) : ExecAnswers .ldAMemBc s :=
  execAnswers_plain [s.bc] [] (exec_ldAMemBc s) (by decide) (by rfl) (by nofun) (by rfl)
    (by simp) (by simp) (by simp) (by simp [Accesses])

theorem answers_ldMemDeA (s : State) : ExecAnswers .ldMemDeA s :=
  execAnswers_plain [] [(s.de, s.regs.a)] (exec_ldMemDeA s) (by decide) (by rfl) (by nofun) (by rfl)
    (by simp) (by simp) (by simp) (by simp [Accesses])

theorem answers_jrE8 (e : Byte) (s : State) : ExecAnswers (.jrE8 e) s :=
  execAnswers_plain [] [] (exec_jrE8 e s) (by decide) (by rfl) (by nofun) (by rfl)
    (by simp) (by simp) (by simp) (by simp [Accesses])

theorem answers_ldAMemDe (s : State) : ExecAnswers .ldAMemDe s :=
  execAnswers_plain [s.de] [] (exec_ldAMemDe s) (by decide) (by rfl) (by nofun) (by rfl)
    (by simp) (by simp) (by simp) (by simp [Accesses])

theorem answers_ldMemHlIncA (s : State) : ExecAnswers .ldMemHlIncA s :=
  execAnswers_plain [] [(s.hl, s.regs.a)] (exec_ldMemHlIncA s) (by decide) (by rfl) (by nofun) (by rfl)
    (by simp) (by simp) (by simp) (by simp [Accesses])

theorem answers_daa (s : State) : ExecAnswers .daa s :=
  execAnswers_plain [] [] (exec_daa s) (by decide) (by rfl) (by nofun) (by rfl)
    (by simp) (by simp) (by simp) (by simp [Accesses])

theorem answers_ldAMemHlInc (s : State) : ExecAnswers .ldAMemHlInc s :=
  execAnswers_plain [s.hl] [] (exec_ldAMemHlInc s) (by decide) (by rfl) (by nofun) (by rfl)
    (by simp) (by simp) (by simp) (by simp [Accesses])

theorem answers_cpl (s : State) : ExecAnswers .cpl s :=
  execAnswers_plain [] [] (exec_cpl s) (by decide) (by rfl) (by nofun) (by rfl)
    (by simp) (by simp) (by simp) (by simp [Accesses])

theorem answers_ldMemHlDecA (s : State) : ExecAnswers .ldMemHlDecA s :=
  execAnswers_plain [] [(s.hl, s.regs.a)] (exec_ldMemHlDecA s) (by decide) (by rfl) (by nofun) (by rfl)
    (by simp) (by simp) (by simp) (by simp [Accesses])

theorem answers_incMemHl (s : State) : ExecAnswers .incMemHl s :=
  execAnswers_plain [s.hl] [(s.hl, inc8 (s.peek s.hl))] (exec_incMemHl s) (by decide) (by rfl) (by nofun) (by rfl)
    (by simp [incFlags]) (by simp [incFlags]) (by simp [incFlags]) (by simp [Accesses, incFlags])

theorem answers_decMemHl (s : State) : ExecAnswers .decMemHl s :=
  execAnswers_plain [s.hl] [(s.hl, dec8 (s.peek s.hl))] (exec_decMemHl s) (by decide) (by rfl) (by nofun) (by rfl)
    (by simp [decFlags]) (by simp [decFlags]) (by simp [decFlags]) (by simp [Accesses, decFlags])

theorem answers_ldMemHlD8 (v : Byte) (s : State) : ExecAnswers (.ldMemHlD8 v) s :=
  execAnswers_plain [] [(s.hl, v)] (exec_ldMemHlD8 v s) (by decide) (by rfl) (by nofun) (by rfl)
    (by simp) (by simp) (by simp) (by simp [Accesses])

theorem answers_scf (s : State) : ExecAnswers .scf s :=
  execAnswers_plain [] [] (exec_scf s) (by decide) (by rfl) (by nofun) (by rfl)
    (by simp) (by simp) (by simp) (by simp [Accesses])

theorem answers_ldAMemHlDec (s : State) : ExecAnswers .ldAMemHlDec s :=
  execAnswers_plain [s.hl] [] (exec_ldAMemHlDec s) (by decide) (by rfl) (by nofun) (by rfl)
    (by simp) (by simp) (by simp) (by simp [Accesses])

theorem answers_ccf (s : State) : ExecAnswers .ccf s :=
  execAnswers_plain [] [] (exec_ccf s) (by decide) (by rfl) (by nofun) (by rfl)
    (by simp) (by simp) (by simp) (by simp [Accesses])

theorem answers_jpA16 (a : Word) (s : State) : ExecAnswers (.jpA16 a) s :=
  execAnswers_plain [] [] (exec_jpA16 a s) (by decide) (by rfl) (by nofun) (by rfl)
    (by simp) (by simp) (by simp) (by simp [Accesses])

theorem answers_ldhMemA8A (n : Byte) (s : State) : ExecAnswers (.ldhMemA8A n) s :=
  execAnswers_plain [] [(highPage n, s.regs.a)] (exec_ldhMemA8A n s) (by decide) (by rfl) (by nofun) (by rfl)
    (by simp) (by simp) (by simp) (by simp [Accesses])

theorem answers_ldMemCA (s : State) : ExecAnswers .ldMemCA s :=
  execAnswers_plain [] [(highPage s.regs.c, s.regs.a)] (exec_ldMemCA s) (by decide) (by rfl) (by nofun) (by rfl)
    (by simp) (by simp) (by simp) (by simp [Accesses])

theorem answers_addSpE8 (e : Byte) (s : State) : ExecAnswers (.addSpE8 e) s :=
  execAnswers_plain [] [] (exec_addSpE8 e s) (by decide) (by rfl) (by nofun) (by rfl)
    (by simp [spPlusFlags]) (by simp [spPlusFlags]) (by simp [spPlusFlags]) (by simp [Accesses, spPlusFlags])

theorem answers_jpHl (s : State) : ExecAnswers .jpHl s :=
  execAnswers_plain [] [] (exec_jpHl s) (by decide) (by rfl) (by nofun) (by rfl)
    (by simp) (by simp) (by simp) (by simp [Accesses])

theorem answers_ldMemA16A (a : Word) (s : State) : ExecAnswers (.ldMemA16A a) s :=
  execAnswers_plain [] [(a, s.regs.a)] (exec_ldMemA16A a s) (by decide) (by rfl) (by nofun) (by rfl)
    (by simp) (by simp) (by simp) (by simp [Accesses])

theorem answers_ldhAMemA8 (n : Byte) (s : State) : ExecAnswers (.ldhAMemA8 n) s :=
  execAnswers_plain [highPage n] [] (exec_ldhAMemA8 n s) (by decide) (by rfl) (by nofun) (by rfl)
    (by simp) (by simp) (by simp) (by simp [Accesses])

theorem answers_ldAMemC (s : State) : ExecAnswers .ldAMemC s :=
  execAnswers_plain [highPage s.regs.c] [] (exec_ldAMemC s) (by decide) (by rfl) (by nofun) (by rfl)
    (by simp) (by simp) (by simp) (by simp [Accesses])

theorem answers_ldHlSpE8 (e : Byte) (s : State) : ExecAnswers (.ldHlSpE8 e) s :=
  execAnswers_plain [] [] (exec_ldHlSpE8 e s) (by decide) (by rfl) (by nofun) (by rfl)
    (by simp [spPlusFlags]) (by simp [spPlusFlags]) (by simp [spPlusFlags]) (by simp [Accesses, spPlusFlags])

theorem answers_ldSpHl (s : State) : ExecAnswers .ldSpHl s :=
  execAnswers_plain [] [] (exec_ldSpHl s) (by decide) (by rfl) (by nofun) (by rfl)
    (by simp) (by simp) (by simp) (by simp [Accesses])

theorem answers_ldAMemA16 (a : Word) (s : State) : ExecAnswers (.ldAMemA16 a) s :=
  execAnswers_plain [a] [] (exec_ldAMemA16 a s) (by decide) (by rfl) (by nofun) (by rfl)
    (by simp) (by simp) (by simp) (by simp [Accesses])

theorem answers_aluReg (op : AluOp) (r : Reg8) (s : State) : ExecAnswers (.aluReg op r) s :=
  have h := applyAlu_keeps op (s.reg r) s
  execAnswers_plain [] [] (exec_aluReg op r s) (by decide) (by cases op <;> cases r <;> rfl)
    (by cases op <;> cases r <;> nofun) (by cases op <;> cases r <;> rfl) h.1 h.2.1 h.2.2.1 h.2.2.2

theorem answers_aluHl (op : AluOp) (s : State) : ExecAnswers (.aluHl op) s :=
  have h := applyAlu_keeps op (s.peek s.hl) (s.afterRead s.hl)
  execAnswers_plain [s.hl] [] (exec_aluHl op s) (by decide) (by cases op <;> rfl) (by cases op <;> nofun)
    (by cases op <;> rfl) (by simpa using h.1) (by simpa using h.2.1) (by simpa using h.2.2.1) h.2.2.2

theorem answers_aluImm (op : AluOp) (v : Byte) (s : State) : ExecAnswers (.aluImm op v) s :=
  have h := applyAlu_keeps op v s
  execAnswers_plain [] [] (exec_aluImm op v s) (by decide) (by cases op <;> rfl) (by cases op <;> nofun)
    (by cases op <;> rfl) h.1 h.2.1 h.2.2.1 h.2.2.2

theorem answers_push (p : StackPair) (s : State) : ExecAnswers (.push p) s :=
  execAnswers_plain [] [(s.regs.sp - 1, hiByte (s.stackPair p)), (s.regs.sp - 2, loByte (s.stackPair p))]
    (exec_push p s) (by decide) (by cases p <;> rfl) (by cases p <;> nofun) (by cases p <;> rfl) (by simp) (by simp)
    (by simp) (s.push16_accesses _ rfl rfl rfl)

theorem answers_pop (p : StackPair) (s : State) : ExecAnswers (.pop p) s := by
  refine .inl ⟨3, _, by decide, exec_pop p s, ⟨by cases p <;> simp, ?_, ?_, _, [], ?_, s.afterPop16_accesses ?_ ?_ ?_⟩⟩
  · cases p <;> simp [imeWritten, Instr.pop]
  · cases p
    case af => exact .inl ⟨rfl, by simp [State.setStackPair, State.setF, State.pop16]⟩
    all_goals exact .inr ⟨nofun, by simp⟩
  · cases p <;> rfl
  all_goals simp

theorem answers_jrCond (cc : Cond) (v : Byte) (s : State) : ExecAnswers (.jrCond cc v) s := by
  have he := exec_jrCond cc v s
  unfold jumpRelCond at he
  split at he <;>
    exact execAnswers_plain [] [] he (by decide) (by cases cc <;> rfl) (by cases cc <;> nofun)
      (by cases cc <;> rfl) rfl
      rfl rfl ⟨rfl, rfl, rfl⟩

theorem answers_jpCond (cc : Cond) (w : Word) (s : State) : ExecAnswers (.jpCond cc w) s := by
  have he := exec_jpCond cc w s
  unfold jumpCond at he
  split at he <;>
    exact execAnswers_plain [] [] he (by decide) (by cases cc <;> rfl) (by cases cc <;> nofun)
      (by cases cc <;> rfl) rfl
      rfl rfl ⟨rfl, rfl, rfl⟩

theorem storedAddrs_callCond (cc : Cond) (w : Word) (s : State) :
    storedAddrs (.callCond cc w) s = if s.holds cc then [s.regs.sp - 1, s.regs.sp - 2] else [] := by
  cases cc <;> rfl

theorem answers_callCond (cc : Cond) (w : Word) (s : State) : ExecAnswers (.callCond cc w) s := by
  have he := exec_callCond cc w s
  unfold callCond at he
  split at he
  · next h =>
    exact execAnswers_plain [] [(s.regs.sp - 1, hiByte s.regs.pc), (s.regs.sp - 2, loByte s.regs.pc)] he (by decide)
      (by cases cc <;> rfl) (by cases cc <;> nofun) (by rw [storedAddrs_callCond, if_pos h]; rfl)
      (by simp [State.enterSubroutine]) (by simp [State.enterSubroutine]) (by simp [State.enterSubroutine])
      (s.push16_accesses _ rfl rfl rfl)
  · next h =>
    exact execAnswers_plain [] [] he (by decide) (by cases cc <;> rfl) (by cases cc <;> nofun)
      (by rw [storedAddrs_callCond, if_neg h]; rfl) rfl rfl rfl ⟨rfl, rfl, rfl⟩

theorem answers_retCond (cc : Cond) (s : State) : ExecAnswers (.retCond cc) s := by
  have he := exec_retCond cc s
  unfold returnCond at he
  split at he
  · exact execAnswers_plain _ [] he (by decide) (by cases cc <;> rfl) (by cases cc <;> nofun) (by cases cc <;> rfl)
      (by simp [State.leaveSubroutine]) (by simp [State.leaveSubroutine]) (by simp [State.leaveSubroutine])
      (s.afterPop16_accesses (by simp [State.leaveSubroutine]) (by simp [State.leaveSubroutine]) rfl)
  · exact execAnswers_plain [] [] he (by decide) (by cases cc <;> rfl) (by cases cc <;> nofun)
      (by cases cc <;> rfl) rfl
      rfl rfl ⟨rfl, rfl, rfl⟩

theorem answers_rst (t : Vec) (s : State) : ExecAnswers (.rst t) s :=
  execAnswers_plain [] [(s.regs.sp - 1, hiByte s.regs.pc), (s.regs.sp - 2, loByte s.regs.pc)] (exec_rst t s)
    (by decide) (by cases t <;> rfl) (by cases t <;> nofun) (by cases t <;> rfl) (by simp [State.enterSubroutine])
    (by simp [State.enterSubroutine]) (by simp [State.enterSubroutine]) (s.push16_accesses _ rfl rfl rfl)

theorem answers_callA16 (a : Word) (s : State) : ExecAnswers (.callA16 a) s :=
  execAnswers_plain [] [(s.regs.sp - 1, hiByte s.regs.pc), (s.regs.sp - 2, loByte s.regs.pc)] (exec_callA16 a s)
    (by decide) rfl nofun rfl (by simp [State.enterSubroutine]) (by simp [State.enterSubroutine])
    (by simp [State.enterSubroutine]) (s.push16_accesses _ rfl rfl rfl)

theorem answers_ret (s : State) : ExecAnswers .ret s :=
  execAnswers_plain _ [] (exec_ret s) (by decide) rfl nofun rfl (by simp [State.leaveSubroutine])
    (by simp [State.leaveSubroutine]) (by simp [State.leaveSubroutine])
    (s.afterPop16_accesses (by simp [State.leaveSubroutine]) (by simp [State.leaveSubroutine]) rfl)

theorem answers_reti (s : State) : ExecAnswers .reti s :=
  .inl ⟨4, _, by decide, exec_reti s,
    ⟨by simp [State.leaveSubroutine], rfl, .inr ⟨nofun, by simp [State.leaveSubroutine]⟩, _, [], rfl,
      s.afterPop16_accesses (by simp [State.leaveSubroutine]) (by simp [State.leaveSubroutine]) rfl⟩⟩

theorem answers_di (s : State) : ExecAnswers .di s :=
  .inl ⟨1, _, by decide, exec_di s, ⟨rfl, rfl, .inr ⟨nofun, rfl⟩, [], [], rfl, rfl, rfl, rfl⟩⟩

theorem answers_ei (s : State) : ExecAnswers .ei s :=
  .inl ⟨1, _, by decide, exec_ei s, ⟨rfl, rfl, .inr ⟨nofun, rfl⟩, [], [], rfl, rfl, rfl, rfl⟩⟩

theorem answers_halt (s : State) : ExecAnswers .halt s := .inr (.inl ⟨.inl rfl, rfl⟩)

theorem answers_stop (x : Byte) (s : State) : ExecAnswers (.stop x) s := .inr (.inl ⟨.inr ⟨x, rfl⟩, rfl⟩)

theorem answers_unimplemented (u : Unimpl) (s : State) : ExecAnswers (.unimplemented u) s :=
  .inr (.inr ⟨u, rfl, exec_unimplemented u s⟩)

/-- The bare prefix stores where the row that its second byte selects stores. -/
theorem storedAddrs_prefixCb (op2 : Byte) (s : State) :
    storedAddrs (.prefixCb op2) s = storedAddrs (decodeExtended op2) s := by
  have hz : op2.toNat % 8 < 8 := Nat.mod_lt _ (by decide)
  have hg : op2.toNat / 64 < 4 := by omega
  show (if op2.toNat % 8 = 6 ∧ op2.toNat / 64 ≠ 1 then [s.hl] else []) = _
  unfold decodeExtended
  dsimp only
  generalize op2.toNat % 8 = z at hz
  generalize op2.toNat / 64 = g at hg
  generalize RotOp.ofField _ = op
  generalize BitIndex.ofField _ = b
  rcases g with _ | _ | _ | g <;> rcases z with _ | _ | _ | _ | _ | _ | _ | _ | z <;>
    first
    | omega
    | (cases op <;> rfl)
    | (cases b <;> rfl)

theorem answers_extended (op2 : Byte) (s : State) :
    ∃ n u, 1 ≤ n ∧ exec (decodeExtended op2) s = finish n u ∧ InstrEffect (decodeExtended op2) s u := by
  have key : ∀ i, ExecAnswers i s → i ≠ .halt → (∀ x, i ≠ .stop x) → (∀ v, i ≠ .unimplemented v) →
      ∃ n u, 1 ≤ n ∧ exec i s = finish n u ∧ InstrEffect i s u := by
    rintro i (h | ⟨h | ⟨x, h⟩, -⟩ | ⟨v, h, -⟩) h1 h2 h3
    · exact h
    · exact absurd h h1
    · exact absurd h (h2 x)
    · exact absurd h (h3 v)
  unfold decodeExtended
  dsimp only
  generalize RotOp.ofField _ = op
  generalize BitIndex.ofField _ = b
  split
  · next r _ _ =>
    exact key _ (answers_rotReg op r s) (by cases op <;> cases r <;> nofun)
      (fun _ => by cases op <;> cases r <;> nofun) (fun v => by cases op <;> cases r <;> cases v <;> nofun)
  · exact key _ (answers_rotHl op s) (by cases op <;> nofun) (fun _ => by cases op <;> nofun)
      (fun v => by cases op <;> cases v <;> nofun)
  · next r _ _ =>
    exact key _ (answers_bitReg b r s) (by cases b <;> cases r <;> nofun)
      (fun _ => by cases b <;> cases r <;> nofun) (fun v => by cases b <;> cases r <;> cases v <;> nofun)
  · exact key _ (answers_bitHl b s) (by cases b <;> nofun) (fun _ => by cases b <;> nofun)
      (fun v => by cases b <;> cases v <;> nofun)
  · next r _ _ =>
    exact key _ (answers_resReg b r s) (by cases b <;> cases r <;> nofun)
      (fun _ => by cases b <;> cases r <;> nofun) (fun v => by cases b <;> cases r <;> cases v <;> nofun)
  · exact key _ (answers_resHl b s) (by cases b <;> nofun) (fun _ => by cases b <;> nofun)
      (fun v => by cases b <;> cases v <;> nofun)
  · next r _ _ _ _ =>
    exact key _ (answers_setReg b r s) (by cases b <;> cases r <;> nofun)
      (fun _ => by cases b <;> cases r <;> nofun) (fun v => by cases b <;> cases r <;> cases v <;> nofun)
  · exact key _ (answers_setHl b s) (by cases b <;> nofun) (fun _ => by cases b <;> nofun)
      (fun v => by cases b <;> cases v <;> nofun)

theorem plain_extended (op2 : Byte) : imeWritten (decodeExtended op2) = none ∧ decodeExtended op2 ≠ .popAf := by
  unfold decodeExtended
  dsimp only
  generalize RotOp.ofField _ = op
  generalize BitIndex.ofField _ = b
  split
  case h_1 r _ _ => cases op <;> cases r <;> exact ⟨rfl, nofun⟩
  case h_2 => cases op <;> exact ⟨rfl, nofun⟩
  case h_3 r _ _ => cases b <;> cases r <;> exact ⟨rfl, nofun⟩
  case h_4 => cases b <;> exact ⟨rfl, nofun⟩
  case h_5 r _ _ => cases b <;> cases r <;> exact ⟨rfl, nofun⟩
  case h_6 => cases b <;> exact ⟨rfl, nofun⟩
  case h_7 r _ _ _ _ => cases b <;> cases r <;> exact ⟨rfl, nofun⟩
  case h_8 => cases b <;> exact ⟨rfl, nofun⟩

theorem answers_prefixCb (op2 : Byte) (s : State) : ExecAnswers (.prefixCb op2) s := by
  obtain ⟨n, u, hn, he, h⟩ := answers_extended op2 s
  refine .inl ⟨n, u, hn, (extendedOp_eq_exec op2 s).trans he, h.halted, ?_, ?_, ?_⟩
  · exact h.ime.trans (by rw [(plain_extended op2).1]; rfl)
  · rcases h.flags with ⟨hp, -⟩ | ⟨-, hf⟩
    · exact absurd hp (plain_extended op2).2
    · exact .inr ⟨nofun, hf⟩
  · obtain ⟨r, w, hw, ha⟩ := h.memory
    exact ⟨r, w, hw.trans (storedAddrs_prefixCb op2 s).symm, ha⟩

/-- What executing an instruction can do. -/
theorem exec_answers (i : Instr) (s : State) : ExecAnswers i s := by
  revert i
  exact Instr.forall_by_family
    (fun x y => answers_ldReg x y s)
    (fun x y => answers_ldRegImm x y s)
    (fun x => answers_ldRegHl x s)
    (fun x => answers_ldHlReg x s)
    (fun x y => answers_aluReg x y s)
    (fun x => answers_aluHl x s)
    (fun x y => answers_aluImm x y s)
    (fun x => answers_incReg x s)
    (fun x => answers_decReg x s)
    (fun x y => answers_ldPair x y s)
    (fun x => answers_addHl x s)
    (fun x => answers_incPair x s)
    (fun x => answers_decPair x s)
    (fun x => answers_push x s)
    (fun x => answers_pop x s)
    (fun x y => answers_jrCond x y s)
    (fun x y => answers_jpCond x y s)
    (fun x y => answers_callCond x y s)
    (fun x => answers_retCond x s)
    (fun x => answers_rst x s)
    (fun x y => answers_rotReg x y s)
    (fun x => answers_rotHl x s)
    (fun x y => answers_bitReg x y s)
    (fun x => answers_bitHl x s)
    (fun x y => answers_resReg x y s)
    (fun x => answers_resHl x s)
    (fun x y => answers_setReg x y s)
    (fun x => answers_setHl x s)
    (fun x => answers_unimplemented x s)
    (answers_nop s)
    (answers_ldMemBcA s)
    (answers_rlca s)
    (fun x => answers_ldMemA16Sp x s)
    (answers_ldAMemBc s)
    (answers_rrca s)
    (fun x => answers_stop x s)
    (answers_ldMemDeA s)
    (answers_rla s)
    (fun x => answers_jrE8 x s)
    (answers_ldAMemDe s)
    (answers_rra s)
    (answers_ldMemHlIncA s)
    (answers_daa s)
    (answers_ldAMemHlInc s)
    (answers_cpl s)
    (answers_ldMemHlDecA s)
    (answers_incMemHl s)
    (answers_decMemHl s)
    (fun x => answers_ldMemHlD8 x s)
    (answers_scf s)
    (answers_ldAMemHlDec s)
    (answers_ccf s)
    (answers_halt s)
    (fun x => answers_jpA16 x s)
    (answers_ret s)
    (fun x => answers_prefixCb x s)
    (fun x => answers_callA16 x s)
    (answers_reti s)
    (fun x => answers_ldhMemA8A x s)
    (answers_ldMemCA s)
    (fun x => answers_addSpE8 x s)
    (answers_jpHl s)
    (fun x => answers_ldMemA16A x s)
    (fun x => answers_ldhAMemA8 x s)
    (answers_ldAMemC s)
    (answers_di s)
    (fun x => answers_ldHlSpE8 x s)
    (answers_ldSpHl s)
    (fun x => answers_ldAMemA16 x s)
    (answers_ei s)

/-- A next state of `exec`, taken apart. -/
theorem exec_next {i : Instr} {s t : State} (h : exec i s = .next t) :
    (∃ n u, 1 ≤ n ∧ t = { u with outcome := some (.cycles n) } ∧ InstrEffect i s u) ∨
      ((i = .halt ∨ ∃ x, i = .stop x) ∧ t = { s with regs.halted := true, outcome := some .halted }) ∨
      ∃ v, i = .unimplemented v ∧ t = { s with outcome := some .unimplementedOpcode } := by
  rcases exec_answers i s with ⟨n, u, hn, he, hu⟩ | ⟨hi, he⟩ | ⟨v, hi, he⟩ <;> rw [he] at h <;> cases h
  · exact .inl ⟨n, u, hn, rfl, hu⟩
  · exact .inr (.inl ⟨hi, rfl⟩)
  · exact .inr (.inr ⟨v, hi, rfl⟩)

/-- Reads keep the address space and the display. -/
theorem foldl_afterRead (reads : List Word) (s : State) :
    (reads.foldl State.afterRead s).bus = s.bus ∧ (reads.foldl State.afterRead s).display = s.display := by
  induction reads generalizing s with
  | nil => exact ⟨rfl, rfl⟩
  | cons a as ih => exact ⟨(ih _).1.trans (s.afterRead_bus a), (ih _).2.trans (s.afterRead_display a)⟩

/-- What depends on the address space and the display alone, and every store keeps, every instruction keeps. -/
theorem exec_keeps (P : State → Prop) (hc : ∀ s t : State, t.bus = s.bus → t.display = s.display → P s → P t)
    (hs : ∀ s a v, P s → P (s.store a v)) {i : Instr} {s t : State} (h : exec i s = .next t) (h0 : P s) : P t := by
  have hw : ∀ (writes : List (Word × Byte)) (s : State), P s →
      P (writes.foldl (fun s c => s.store c.1 c.2) s) := by
    intro writes
    induction writes with
    | nil => exact fun _ h => h
    | cons c cs ih => exact fun s h => ih _ (hs s _ _ h)
  rcases exec_next h with ⟨n, u, -, rfl, hu⟩ | ⟨-, rfl⟩ | ⟨v, -, rfl⟩
  · obtain ⟨reads, writes, -, ha⟩ := hu.memory
    have hr := foldl_afterRead reads s
    exact hc _ _ ha.1 ha.2.1 (hw writes _ (hc s _ hr.1 hr.2 h0))
  · exact hc s _ rfl rfl h0
  · exact hc s _ rfl rfl h0

end Sys2Proof.Machine
end

