-- ==== Sys2Proof/Laws/Graphics.lean ====
section
/-! SUPPORT. Laws of the graphics timer: what an advance leaves unchanged (60_exceptions.md R312), the induction over its
transitions, the canonical form of the frame buffer, and the shades. -/

namespace Sys2Proof.Machine

theorem threshold_pos (m : Mode) : 0 < threshold m := by cases m <;> decide

/-! ### What each operation of the timer does to each field -/

/-! #### `setModeClock` -/

@[simp] theorem setModeClock_regs (s : State) (n : Nat) : (setModeClock s n).regs = s.regs := rfl

@[simp] theorem setModeClock_bus (s : State) (n : Nat) : (setModeClock s n).bus = s.bus := rfl

@[simp] theorem setModeClock_ioHistory (s : State) (n : Nat) : (setModeClock s n).ioHistory = s.ioHistory :=
  rfl

@[simp] theorem setModeClock_outcome (s : State) (n : Nat) : (setModeClock s n).outcome = s.outcome := rfl

@[simp] theorem setModeClock_lcdc (s : State) (n : Nat) : (setModeClock s n).display.lcdc = s.display.lcdc :=
  rfl

@[simp] theorem setModeClock_stat (s : State) (n : Nat) : (setModeClock s n).display.stat = s.display.stat :=
  rfl

@[simp] theorem setModeClock_scy (s : State) (n : Nat) : (setModeClock s n).display.scy = s.display.scy :=
  rfl

@[simp] theorem setModeClock_scx (s : State) (n : Nat) : (setModeClock s n).display.scx = s.display.scx :=
  rfl

@[simp] theorem setModeClock_ly (s : State) (n : Nat) : (setModeClock s n).display.ly = s.display.ly := rfl

@[simp] theorem setModeClock_lyc (s : State) (n : Nat) : (setModeClock s n).display.lyc = s.display.lyc :=
  rfl

@[simp] theorem setModeClock_bgp (s : State) (n : Nat) : (setModeClock s n).display.bgp = s.display.bgp :=
  rfl

@[simp] theorem setModeClock_obp0 (s : State) (n : Nat) : (setModeClock s n).display.obp0 = s.display.obp0 :=
  rfl

@[simp] theorem setModeClock_obp1 (s : State) (n : Nat) : (setModeClock s n).display.obp1 = s.display.obp1 :=
  rfl

@[simp] theorem setModeClock_mode (s : State) (n : Nat) : (setModeClock s n).display.mode = s.display.mode :=
  rfl

@[simp] theorem setModeClock_modeClock (s : State) (n : Nat) : (setModeClock s n).display.modeClock = n :=
  rfl

@[simp] theorem setModeClock_fb (s : State) (n : Nat) : (setModeClock s n).display.fb = s.display.fb := rfl

@[simp] theorem setModeClock_frameCount (s : State) (n : Nat) : (setModeClock s n).display.frameCount = s.display.frameCount :=
  rfl

/-! #### `setMode` -/

@[simp] theorem setMode_regs (s : State) (m : Mode) : (setMode s m).regs = s.regs := rfl

@[simp] theorem setMode_bus (s : State) (m : Mode) : (setMode s m).bus = s.bus := rfl

@[simp] theorem setMode_ioHistory (s : State) (m : Mode) : (setMode s m).ioHistory = s.ioHistory := rfl

@[simp] theorem setMode_outcome (s : State) (m : Mode) : (setMode s m).outcome = s.outcome := rfl

@[simp] theorem setMode_lcdc (s : State) (m : Mode) : (setMode s m).display.lcdc = s.display.lcdc := rfl

@[simp] theorem setMode_stat (s : State) (m : Mode) : (setMode s m).display.stat = s.display.stat := rfl

@[simp] theorem setMode_scy (s : State) (m : Mode) : (setMode s m).display.scy = s.display.scy := rfl

@[simp] theorem setMode_scx (s : State) (m : Mode) : (setMode s m).display.scx = s.display.scx := rfl

@[simp] theorem setMode_ly (s : State) (m : Mode) : (setMode s m).display.ly = s.display.ly := rfl

@[simp] theorem setMode_lyc (s : State) (m : Mode) : (setMode s m).display.lyc = s.display.lyc := rfl

@[simp] theorem setMode_bgp (s : State) (m : Mode) : (setMode s m).display.bgp = s.display.bgp := rfl

@[simp] theorem setMode_obp0 (s : State) (m : Mode) : (setMode s m).display.obp0 = s.display.obp0 := rfl

@[simp] theorem setMode_obp1 (s : State) (m : Mode) : (setMode s m).display.obp1 = s.display.obp1 := rfl

@[simp] theorem setMode_mode (s : State) (m : Mode) : (setMode s m).display.mode = m := rfl

@[simp] theorem setMode_modeClock (s : State) (m : Mode) : (setMode s m).display.modeClock = s.display.modeClock :=
  rfl

@[simp] theorem setMode_fb (s : State) (m : Mode) : (setMode s m).display.fb = s.display.fb := rfl

@[simp] theorem setMode_frameCount (s : State) (m : Mode) : (setMode s m).display.frameCount = s.display.frameCount :=
  rfl

/-! #### `rasterize` -/

@[simp] theorem rasterize_regs (s : State) : (rasterize s).regs = s.regs := rfl

@[simp] theorem rasterize_bus (s : State) : (rasterize s).bus = s.bus := rfl

@[simp] theorem rasterize_ioHistory (s : State) : (rasterize s).ioHistory = s.ioHistory := rfl

@[simp] theorem rasterize_outcome (s : State) : (rasterize s).outcome = s.outcome := rfl

@[simp] theorem rasterize_lcdc (s : State) : (rasterize s).display.lcdc = s.display.lcdc := rfl

@[simp] theorem rasterize_stat (s : State) : (rasterize s).display.stat = s.display.stat := rfl

@[simp] theorem rasterize_scy (s : State) : (rasterize s).display.scy = s.display.scy := rfl

@[simp] theorem rasterize_scx (s : State) : (rasterize s).display.scx = s.display.scx := rfl

@[simp] theorem rasterize_ly (s : State) : (rasterize s).display.ly = s.display.ly := rfl

@[simp] theorem rasterize_lyc (s : State) : (rasterize s).display.lyc = s.display.lyc := rfl

@[simp] theorem rasterize_bgp (s : State) : (rasterize s).display.bgp = s.display.bgp := rfl

@[simp] theorem rasterize_obp0 (s : State) : (rasterize s).display.obp0 = s.display.obp0 := rfl

@[simp] theorem rasterize_obp1 (s : State) : (rasterize s).display.obp1 = s.display.obp1 := rfl

@[simp] theorem rasterize_mode (s : State) : (rasterize s).display.mode = s.display.mode := rfl

@[simp] theorem rasterize_modeClock (s : State) : (rasterize s).display.modeClock = s.display.modeClock :=
  rfl

@[simp] theorem rasterize_fb (s : State) : (rasterize s).display.fb = rasterizeRow s s.display.ly.toNat 160 :=
  rfl

@[simp] theorem rasterize_frameCount (s : State) : (rasterize s).display.frameCount = s.display.frameCount :=
  rfl

/-! #### `hblankEnd` -/

@[simp] theorem hblankEnd_regs (s : State) : (hblankEnd s).regs = s.regs := rfl

@[simp] theorem hblankEnd_bus (s : State) : (hblankEnd s).bus = s.bus := rfl

@[simp] theorem hblankEnd_ioHistory (s : State) : (hblankEnd s).ioHistory = s.ioHistory := rfl

@[simp] theorem hblankEnd_outcome (s : State) : (hblankEnd s).outcome = s.outcome := rfl

@[simp] theorem hblankEnd_lcdc (s : State) : (hblankEnd s).display.lcdc = s.display.lcdc := rfl

@[simp] theorem hblankEnd_stat (s : State) : (hblankEnd s).display.stat = s.display.stat := rfl

@[simp] theorem hblankEnd_scy (s : State) : (hblankEnd s).display.scy = s.display.scy := rfl

@[simp] theorem hblankEnd_scx (s : State) : (hblankEnd s).display.scx = s.display.scx := rfl

@[simp] theorem hblankEnd_ly (s : State) : (hblankEnd s).display.ly = s.display.ly + 1 := rfl

@[simp] theorem hblankEnd_lyc (s : State) : (hblankEnd s).display.lyc = s.display.lyc := rfl

@[simp] theorem hblankEnd_bgp (s : State) : (hblankEnd s).display.bgp = s.display.bgp := rfl

@[simp] theorem hblankEnd_obp0 (s : State) : (hblankEnd s).display.obp0 = s.display.obp0 := rfl

@[simp] theorem hblankEnd_obp1 (s : State) : (hblankEnd s).display.obp1 = s.display.obp1 := rfl

@[simp] theorem hblankEnd_mode (s : State) : (hblankEnd s).display.mode = if s.display.ly + 1 = 144 then .vblank else .oamScan :=
  rfl

@[simp] theorem hblankEnd_modeClock (s : State) : (hblankEnd s).display.modeClock = s.display.modeClock :=
  rfl

@[simp] theorem hblankEnd_fb (s : State) : (hblankEnd s).display.fb = s.display.fb := rfl

@[simp] theorem hblankEnd_frameCount (s : State) : (hblankEnd s).display.frameCount = s.display.frameCount :=
  rfl

/-! #### `vblankLine` -/

@[simp] theorem vblankLine_regs (s : State) : (vblankLine s).regs = s.regs := by
  unfold vblankLine
  split <;> rfl

@[simp] theorem vblankLine_bus (s : State) : (vblankLine s).bus = s.bus := by
  unfold vblankLine
  split <;> rfl

@[simp] theorem vblankLine_ioHistory (s : State) : (vblankLine s).ioHistory = s.ioHistory := by
  unfold vblankLine
  split <;> rfl

@[simp] theorem vblankLine_outcome (s : State) : (vblankLine s).outcome = s.outcome := by
  unfold vblankLine
  split <;> rfl

@[simp] theorem vblankLine_lcdc (s : State) : (vblankLine s).display.lcdc = s.display.lcdc := by
  unfold vblankLine
  split <;> rfl

@[simp] theorem vblankLine_stat (s : State) : (vblankLine s).display.stat = s.display.stat := by
  unfold vblankLine
  split <;> rfl

@[simp] theorem vblankLine_scy (s : State) : (vblankLine s).display.scy = s.display.scy := by
  unfold vblankLine
  split <;> rfl

@[simp] theorem vblankLine_scx (s : State) : (vblankLine s).display.scx = s.display.scx := by
  unfold vblankLine
  split <;> rfl

@[simp] theorem vblankLine_ly (s : State) : (vblankLine s).display.ly = if s.display.ly = 153 then 0 else s.display.ly + 1 := by
  unfold vblankLine
  by_cases h : s.display.ly = 153
  · rw [if_pos h, if_pos h]
  · rw [if_neg h, if_neg h]

@[simp] theorem vblankLine_lyc (s : State) : (vblankLine s).display.lyc = s.display.lyc := by
  unfold vblankLine
  split <;> rfl

@[simp] theorem vblankLine_bgp (s : State) : (vblankLine s).display.bgp = s.display.bgp := by
  unfold vblankLine
  split <;> rfl

@[simp] theorem vblankLine_obp0 (s : State) : (vblankLine s).display.obp0 = s.display.obp0 := by
  unfold vblankLine
  split <;> rfl

@[simp] theorem vblankLine_obp1 (s : State) : (vblankLine s).display.obp1 = s.display.obp1 := by
  unfold vblankLine
  split <;> rfl

@[simp] theorem vblankLine_mode (s : State) : (vblankLine s).display.mode = if s.display.ly = 153 then .oamScan else s.display.mode := by
  unfold vblankLine
  by_cases h : s.display.ly = 153
  · rw [if_pos h, if_pos h]
  · rw [if_neg h, if_neg h]

@[simp] theorem vblankLine_modeClock (s : State) : (vblankLine s).display.modeClock = s.display.modeClock := by
  unfold vblankLine
  split <;> rfl

@[simp] theorem vblankLine_fb (s : State) : (vblankLine s).display.fb = s.display.fb := by
  unfold vblankLine
  split <;> rfl

@[simp] theorem vblankLine_frameCount (s : State) : (vblankLine s).display.frameCount = if s.display.ly = 153 then s.display.frameCount + 1 else s.display.frameCount := by
  unfold vblankLine
  by_cases h : s.display.ly = 153
  · rw [if_pos h, if_pos h]
  · rw [if_neg h, if_neg h]

/-! #### `syncStatus` -/

@[simp] theorem syncStatus_regs (s : State) : (syncStatus s).regs = s.regs := rfl

@[simp] theorem syncStatus_bus (s : State) : (syncStatus s).bus = s.bus := rfl

@[simp] theorem syncStatus_ioHistory (s : State) : (syncStatus s).ioHistory = s.ioHistory := rfl

@[simp] theorem syncStatus_outcome (s : State) : (syncStatus s).outcome = s.outcome := rfl

@[simp] theorem syncStatus_lcdc (s : State) : (syncStatus s).display.lcdc = s.display.lcdc := rfl

@[simp] theorem syncStatus_stat (s : State) : (syncStatus s).display.stat = syncedStat s.display := rfl

@[simp] theorem syncStatus_scy (s : State) : (syncStatus s).display.scy = s.display.scy := rfl

@[simp] theorem syncStatus_scx (s : State) : (syncStatus s).display.scx = s.display.scx := rfl

@[simp] theorem syncStatus_ly (s : State) : (syncStatus s).display.ly = s.display.ly := rfl

@[simp] theorem syncStatus_lyc (s : State) : (syncStatus s).display.lyc = s.display.lyc := rfl

@[simp] theorem syncStatus_bgp (s : State) : (syncStatus s).display.bgp = s.display.bgp := rfl

@[simp] theorem syncStatus_obp0 (s : State) : (syncStatus s).display.obp0 = s.display.obp0 := rfl

@[simp] theorem syncStatus_obp1 (s : State) : (syncStatus s).display.obp1 = s.display.obp1 := rfl

@[simp] theorem syncStatus_mode (s : State) : (syncStatus s).display.mode = s.display.mode := rfl

@[simp] theorem syncStatus_modeClock (s : State) : (syncStatus s).display.modeClock = s.display.modeClock :=
  rfl

@[simp] theorem syncStatus_fb (s : State) : (syncStatus s).display.fb = s.display.fb := rfl

@[simp] theorem syncStatus_frameCount (s : State) : (syncStatus s).display.frameCount = s.display.frameCount :=
  rfl

/-! ### One transition -/

/-- A transition is one of four, by the mode. -/
theorem transition_eq (s : State) :
    transition s =
      match s.display.mode with
      | .oamScan => setMode (setModeClock s (s.display.modeClock - 80)) .pixelTransfer
      | .pixelTransfer => setMode (rasterize (setModeClock s (s.display.modeClock - 172))) .hblank
      | .hblank => hblankEnd (setModeClock s (s.display.modeClock - 204))
      | .vblank => vblankLine (setModeClock s (s.display.modeClock - 456)) := by
  unfold transition
  cases h : s.display.mode <;> rfl

/-- A transition takes the threshold of the mode off the clock. -/
theorem transition_modeClock (s : State) :
    (transition s).display.modeClock = s.display.modeClock - threshold s.display.mode := by
  rw [transition_eq]
  cases s.display.mode <;> simp [threshold]

/-- A transition writes display state only, and of the registers an address reaches only LY. -/
theorem transition_keeps (s : State) :
    (transition s).regs = s.regs ∧ (transition s).bus = s.bus ∧ (transition s).ioHistory = s.ioHistory ∧
      (transition s).outcome = s.outcome ∧ (transition s).display.stat = s.display.stat ∧
      (transition s).display.lyc = s.display.lyc ∧ (transition s).display.scy = s.display.scy ∧
      (transition s).display.scx = s.display.scx ∧ (transition s).display.bgp = s.display.bgp ∧
      (transition s).display.lcdc = s.display.lcdc ∧ (transition s).display.obp0 = s.display.obp0 ∧
      (transition s).display.obp1 = s.display.obp1 := by
  rw [transition_eq]
  cases s.display.mode <;> simp

/-! ### The loop -/

/-- What every transition keeps, the loop keeps. -/
theorem transitions_induct {P : State → Prop}
    (h : ∀ s, threshold s.display.mode ≤ s.display.modeClock → P s → P (transition s)) (fuel : Nat) (s : State)
    (hs : P s) : P (transitions fuel s) := by
  induction fuel generalizing s with
  | zero => exact hs
  | succ n ih =>
    unfold transitions
    split
    · next hle => exact ih _ (h s hle hs)
    · exact hs

/-- With the clock as fuel the loop ends below the threshold: fuel enough is enough (log entry 10). -/
theorem transitions_below (fuel : Nat) (s : State) (h : s.display.modeClock ≤ fuel) :
    (transitions fuel s).display.modeClock < threshold (transitions fuel s).display.mode := by
  induction fuel generalizing s with
  | zero =>
    have := threshold_pos s.display.mode
    unfold transitions
    omega
  | succ n ih =>
    unfold transitions
    split
    · have := threshold_pos s.display.mode
      refine ih _ ?_
      rw [transition_modeClock]
      omega
    · next hlt => omega

/-- More fuel than the clock changes nothing. -/
theorem transitions_fuel (n m : Nat) (s : State) (hn : s.display.modeClock ≤ n) (hm : s.display.modeClock ≤ m) :
    transitions n s = transitions m s := by
  induction n generalizing m s with
  | zero =>
    have := threshold_pos s.display.mode
    cases m with
    | zero => rfl
    | succ m =>
      unfold transitions
      rw [if_neg (by omega)]
  | succ n ih =>
    have := threshold_pos s.display.mode
    cases m with
    | zero =>
      unfold transitions
      rw [if_neg (by omega)]
    | succ m =>
      unfold transitions
      split
      · refine ih m _ ?_ ?_ <;> rw [transition_modeClock] <;> omega
      · rfl

theorem transitions_keeps (fuel : Nat) (s : State) :
    (transitions fuel s).regs = s.regs ∧ (transitions fuel s).bus = s.bus ∧
      (transitions fuel s).ioHistory = s.ioHistory ∧ (transitions fuel s).outcome = s.outcome ∧
      (transitions fuel s).display.stat = s.display.stat ∧ (transitions fuel s).display.lyc = s.display.lyc := by
  refine transitions_induct (P := fun t => t.regs = s.regs ∧ t.bus = s.bus ∧ t.ioHistory = s.ioHistory ∧
    t.outcome = s.outcome ∧ t.display.stat = s.display.stat ∧ t.display.lyc = s.display.lyc) ?_ fuel s
    ⟨rfl, rfl, rfl, rfl, rfl, rfl⟩
  intro t _ ⟨h1, h2, h3, h4, h5, h6⟩
  obtain ⟨k1, k2, k3, k4, k5, k6, _⟩ := transition_keeps t
  exact ⟨k1.trans h1, k2.trans h2, k3.trans h3, k4.trans h4, k5.trans h5, k6.trans h6⟩

/-! ### Advance -/

@[simp] theorem advance_regs (n : Nat) (s : State) : (advance n s).regs = s.regs :=
  (transitions_keeps _ _).1

@[simp] theorem advance_bus (n : Nat) (s : State) : (advance n s).bus = s.bus :=
  (transitions_keeps _ _).2.1

@[simp] theorem advance_ioHistory (n : Nat) (s : State) : (advance n s).ioHistory = s.ioHistory :=
  (transitions_keeps _ _).2.2.1

@[simp] theorem advance_outcome (n : Nat) (s : State) : (advance n s).outcome = s.outcome :=
  (transitions_keeps _ _).2.2.2.1

/-! ### The rasterizer -/

/-- The map and tile reads of the rasterizer lie in video RAM (R309, R310). -/
theorem map_address_vram {row col : Nat} (hr : row < 32) (hc : col < 32) :
    regionOf (BitVec.ofNat 16 (mapBase + 32 * row + col)) = .vram := by
  rw [regionOf_vram, BitVec.toNat_ofNat]
  unfold mapBase
  omega

theorem tile_address_vram {idx r p : Nat} (hi : idx < 256) (hr : r < 8) (hp : p < 2) :
    regionOf (BitVec.ofNat 16 (tileBase + 16 * idx + 2 * r + p)) = .vram := by
  rw [regionOf_vram, BitVec.toNat_ofNat]
  unfold tileBase
  omega

/-- A pixel depends on SCY, SCX, BGP and video RAM alone (R308). -/
theorem pixelShade_congr {s t : State} (hv : t.bus.vram = s.bus.vram) (hy : t.display.scy = s.display.scy)
    (hx : t.display.scx = s.display.scx) (hp : t.display.bgp = s.display.bgp) (y x : Nat) :
    pixelShade t y x = pixelShade s y x := by
  have hread : ∀ a, regionOf a = .vram → t.peek a = s.peek a := by
    intro a ha
    rw [State.peek_vram ha, State.peek_vram ha, hv]
  unfold pixelShade
  dsimp only
  rw [hy, hx, hp, hread _ (map_address_vram (Nat.mod_lt _ (by decide)) (Nat.mod_lt _ (by decide))),
    hread (BitVec.ofNat 16 (_ + 2 * (_ % 8)))
      (tile_address_vram (p := 0) (BitVec.isLt _) (Nat.mod_lt _ (by decide)) (by decide)),
    hread (BitVec.ofNat 16 (_ + 1))
      (tile_address_vram (p := 1) (BitVec.isLt _) (Nat.mod_lt _ (by decide)) (by decide))]

theorem rasterizeRow_wf {s : State} (h : storeWf (144 * 160) s.display.fb = true) {y : Nat} (hy : y < 144) (n : Nat)
    (hn : n ≤ 160) : storeWf (144 * 160) (rasterizeRow s y n) = true := by
  induction n with
  | zero => exact h
  | succ n ih =>
    have h1 := ih (by omega)
    simp only [storeWf, Bool.and_eq_true] at h1 ⊢
    refine ⟨Memory.wf_set h1.1 _ _, Memory.below_set h1.2 ?_ _⟩
    unfold fbKey
    omega

/-- Column `x` of the line reads the pixel the rasterizer computed, every other cell as before. -/
theorem get_rasterizeRow (s : State) (y n : Nat) (hn : n ≤ 160) (k : Nat) :
    Memory.get (rasterizeRow s y n) k =
      if 160 * y ≤ k ∧ k < 160 * y + n then pixelShade s y (k - 160 * y) else Memory.get s.display.fb k := by
  induction n with
  | zero => simp [rasterizeRow, show ¬(160 * y ≤ k ∧ k < 160 * y) by omega]
  | succ n ih =>
    rw [rasterizeRow, Memory.get_set, ih (by omega)]
    unfold fbKey
    by_cases hk : k = 160 * y + n
    · subst hk
      rw [if_pos rfl, if_pos (by omega), show 160 * y + n - 160 * y = n by omega]
    · rw [if_neg hk]
      exact if_congr (by omega) rfl rfl

/-- An advance keeps every store canonical where the timer rasterizes visible lines only. -/
theorem advance_memoryWf_of {s : State} (n : Nat)
    (h : ∀ t, threshold t.display.mode ≤ t.display.modeClock → t.bus = s.bus →
      storeWf (144 * 160) t.display.fb = true → storeWf (144 * 160) (transition t).display.fb = true)
    (hs : s.memoryWf = true) : (advance n s).memoryWf = true := by
  have hfb : storeWf (144 * 160) (advance n s).display.fb = true := by
    have h0 := transitions_induct (P := fun t => t.bus = s.bus ∧ storeWf (144 * 160) t.display.fb = true)
      (fun t ht hP => ⟨(transition_keeps t).2.1.trans hP.1, h t ht hP.1 hP.2⟩)
      (setModeClock s (s.display.modeClock + n)).display.modeClock (setModeClock s (s.display.modeClock + n))
      ⟨rfl, by
        simp only [State.memoryWf, Bool.and_eq_true] at hs
        exact hs.2⟩
    exact h0.2
  simp only [State.memoryWf, Bool.and_eq_true, advance_bus] at hs ⊢
  exact ⟨hs.1, hfb⟩

/-! ### The shades (R311) -/

/-- Every shade reads the same in the three channels. -/
theorem shade_grey (a : Shade) :
    Config.greyScale.red (Config.shade a) = Config.greyScale.green (Config.shade a) ∧
      Config.greyScale.green (Config.shade a) = Config.greyScale.blue (Config.shade a) :=
  Config.greyScale.grey a

/-- The lower shade number is the lighter colour. -/
theorem shade_darker_iff (a b : Shade) :
    Config.greyScale.red (Config.shade a) < Config.greyScale.red (Config.shade b) ↔ b < a := by
  refine ⟨fun h => ?_, Config.greyScale.darker b a⟩
  by_contra hb
  by_cases hab : a = b
  · exact absurd (hab ▸ h) (Nat.lt_irrefl _)
  · exact absurd (Config.greyScale.darker a b (by bv_omega)) (Nat.lt_asymm h)

/-- Different shades are different colours. -/
theorem shade_inj (a b : Shade) : Config.shade a = Config.shade b ↔ a = b := by
  refine ⟨fun h => ?_, fun h => h ▸ rfl⟩
  have hab := shade_darker_iff a b
  have hba := shade_darker_iff b a
  rw [h] at hab hba
  bv_omega

/-- The two bits of BGP that a colour index selects. -/
theorem paletteShade_toNat (bgp : Byte) (ci : Nat) :
    (paletteShade bgp ci).toNat = bgp.toNat / 4 ^ ci % 4 := by
  simp [paletteShade, Nat.shiftRight_eq_div_pow, Nat.pow_mul]

end Sys2Proof.Machine
end

