-- ==== Sys2Proof/Laws/PerInstr.lean ====
section
/-! SUPPORT. One statement of every instruction as syntax, one lemma per constructor. -/

namespace Sys2Proof.Laws.EncodedLength

/-- The first byte of a well-formed instruction's encoding decides its length (30_encoding.md R122). -/
def Statement (i : Instr) : Prop :=
  i.WellFormed = true → (encode i).length = instrLength ((encode i).getD 0 0)

theorem nop : Statement .nop := fun _ => rfl

theorem ldBcD16 (w : Word) : Statement (.ldBcD16 w) := fun _ => rfl

theorem ldMemBcA : Statement .ldMemBcA := fun _ => rfl

theorem incBc : Statement .incBc := fun _ => rfl

theorem incB : Statement .incB := fun _ => rfl

theorem decB : Statement .decB := fun _ => rfl

theorem ldBD8 (v : Byte) : Statement (.ldBD8 v) := fun _ => rfl

theorem rlca : Statement .rlca := fun _ => rfl

theorem ldMemA16Sp (a : Word) : Statement (.ldMemA16Sp a) := fun _ => rfl

theorem addHlBc : Statement .addHlBc := fun _ => rfl

theorem ldAMemBc : Statement .ldAMemBc := fun _ => rfl

theorem decBc : Statement .decBc := fun _ => rfl

theorem incC : Statement .incC := fun _ => rfl

theorem decC : Statement .decC := fun _ => rfl

theorem ldCD8 (v : Byte) : Statement (.ldCD8 v) := fun _ => rfl

theorem rrca : Statement .rrca := fun _ => rfl

theorem stop (x : Byte) : Statement (.stop x) := fun _ => rfl

theorem ldDeD16 (w : Word) : Statement (.ldDeD16 w) := fun _ => rfl

theorem ldMemDeA : Statement .ldMemDeA := fun _ => rfl

theorem incDe : Statement .incDe := fun _ => rfl

theorem incD : Statement .incD := fun _ => rfl

theorem decD : Statement .decD := fun _ => rfl

theorem ldDD8 (v : Byte) : Statement (.ldDD8 v) := fun _ => rfl

theorem rla : Statement .rla := fun _ => rfl

theorem jrE8 (e : Byte) : Statement (.jrE8 e) := fun _ => rfl

theorem addHlDe : Statement .addHlDe := fun _ => rfl

theorem ldAMemDe : Statement .ldAMemDe := fun _ => rfl

theorem decDe : Statement .decDe := fun _ => rfl

theorem incE : Statement .incE := fun _ => rfl

theorem decE : Statement .decE := fun _ => rfl

theorem ldED8 (v : Byte) : Statement (.ldED8 v) := fun _ => rfl

theorem rra : Statement .rra := fun _ => rfl

theorem jrNzE8 (e : Byte) : Statement (.jrNzE8 e) := fun _ => rfl

theorem ldHlD16 (w : Word) : Statement (.ldHlD16 w) := fun _ => rfl

theorem ldMemHlIncA : Statement .ldMemHlIncA := fun _ => rfl

theorem incHl : Statement .incHl := fun _ => rfl

theorem incH : Statement .incH := fun _ => rfl

theorem decH : Statement .decH := fun _ => rfl

theorem ldHD8 (v : Byte) : Statement (.ldHD8 v) := fun _ => rfl

theorem daa : Statement .daa := fun _ => rfl

theorem jrZE8 (e : Byte) : Statement (.jrZE8 e) := fun _ => rfl

theorem addHlHl : Statement .addHlHl := fun _ => rfl

theorem ldAMemHlInc : Statement .ldAMemHlInc := fun _ => rfl

theorem decHl : Statement .decHl := fun _ => rfl

theorem incL : Statement .incL := fun _ => rfl

theorem decL : Statement .decL := fun _ => rfl

theorem ldLD8 (v : Byte) : Statement (.ldLD8 v) := fun _ => rfl

theorem cpl : Statement .cpl := fun _ => rfl

theorem jrNcE8 (e : Byte) : Statement (.jrNcE8 e) := fun _ => rfl

theorem ldSpD16 (w : Word) : Statement (.ldSpD16 w) := fun _ => rfl

theorem ldMemHlDecA : Statement .ldMemHlDecA := fun _ => rfl

theorem incSp : Statement .incSp := fun _ => rfl

theorem incMemHl : Statement .incMemHl := fun _ => rfl

theorem decMemHl : Statement .decMemHl := fun _ => rfl

theorem ldMemHlD8 (v : Byte) : Statement (.ldMemHlD8 v) := fun _ => rfl

theorem scf : Statement .scf := fun _ => rfl

theorem jrCE8 (e : Byte) : Statement (.jrCE8 e) := fun _ => rfl

theorem addHlSp : Statement .addHlSp := fun _ => rfl

theorem ldAMemHlDec : Statement .ldAMemHlDec := fun _ => rfl

theorem decSp : Statement .decSp := fun _ => rfl

theorem incA : Statement .incA := fun _ => rfl

theorem decA : Statement .decA := fun _ => rfl

theorem ldAD8 (v : Byte) : Statement (.ldAD8 v) := fun _ => rfl

theorem ccf : Statement .ccf := fun _ => rfl

theorem ldBB : Statement .ldBB := fun _ => rfl

theorem ldBC : Statement .ldBC := fun _ => rfl

theorem ldBD : Statement .ldBD := fun _ => rfl

theorem ldBE : Statement .ldBE := fun _ => rfl

theorem ldBH : Statement .ldBH := fun _ => rfl

theorem ldBL : Statement .ldBL := fun _ => rfl

theorem ldBMemHl : Statement .ldBMemHl := fun _ => rfl

theorem ldBA : Statement .ldBA := fun _ => rfl

theorem ldCB : Statement .ldCB := fun _ => rfl

theorem ldCC : Statement .ldCC := fun _ => rfl

theorem ldCD : Statement .ldCD := fun _ => rfl

theorem ldCE : Statement .ldCE := fun _ => rfl

theorem ldCH : Statement .ldCH := fun _ => rfl

theorem ldCL : Statement .ldCL := fun _ => rfl

theorem ldCMemHl : Statement .ldCMemHl := fun _ => rfl

theorem ldCA : Statement .ldCA := fun _ => rfl

theorem ldDB : Statement .ldDB := fun _ => rfl

theorem ldDC : Statement .ldDC := fun _ => rfl

theorem ldDD : Statement .ldDD := fun _ => rfl

theorem ldDE : Statement .ldDE := fun _ => rfl

theorem ldDH : Statement .ldDH := fun _ => rfl

theorem ldDL : Statement .ldDL := fun _ => rfl

theorem ldDMemHl : Statement .ldDMemHl := fun _ => rfl

theorem ldDA : Statement .ldDA := fun _ => rfl

theorem ldEB : Statement .ldEB := fun _ => rfl

theorem ldEC : Statement .ldEC := fun _ => rfl

theorem ldED : Statement .ldED := fun _ => rfl

theorem ldEE : Statement .ldEE := fun _ => rfl

theorem ldEH : Statement .ldEH := fun _ => rfl

theorem ldEL : Statement .ldEL := fun _ => rfl

theorem ldEMemHl : Statement .ldEMemHl := fun _ => rfl

theorem ldEA : Statement .ldEA := fun _ => rfl

theorem ldHB : Statement .ldHB := fun _ => rfl

theorem ldHC : Statement .ldHC := fun _ => rfl

theorem ldHD : Statement .ldHD := fun _ => rfl

theorem ldHE : Statement .ldHE := fun _ => rfl

theorem ldHH : Statement .ldHH := fun _ => rfl

theorem ldHL : Statement .ldHL := fun _ => rfl

theorem ldHMemHl : Statement .ldHMemHl := fun _ => rfl

theorem ldHA : Statement .ldHA := fun _ => rfl

theorem ldLB : Statement .ldLB := fun _ => rfl

theorem ldLC : Statement .ldLC := fun _ => rfl

theorem ldLD : Statement .ldLD := fun _ => rfl

theorem ldLE : Statement .ldLE := fun _ => rfl

theorem ldLH : Statement .ldLH := fun _ => rfl

theorem ldLL : Statement .ldLL := fun _ => rfl

theorem ldLMemHl : Statement .ldLMemHl := fun _ => rfl

theorem ldLA : Statement .ldLA := fun _ => rfl

theorem ldMemHlB : Statement .ldMemHlB := fun _ => rfl

theorem ldMemHlC : Statement .ldMemHlC := fun _ => rfl

theorem ldMemHlD : Statement .ldMemHlD := fun _ => rfl

theorem ldMemHlE : Statement .ldMemHlE := fun _ => rfl

theorem ldMemHlH : Statement .ldMemHlH := fun _ => rfl

theorem ldMemHlL : Statement .ldMemHlL := fun _ => rfl

theorem halt : Statement .halt := fun _ => rfl

theorem ldMemHlA : Statement .ldMemHlA := fun _ => rfl

theorem ldAB : Statement .ldAB := fun _ => rfl

theorem ldAC : Statement .ldAC := fun _ => rfl

theorem ldAD : Statement .ldAD := fun _ => rfl

theorem ldAE : Statement .ldAE := fun _ => rfl

theorem ldAH : Statement .ldAH := fun _ => rfl

theorem ldAL : Statement .ldAL := fun _ => rfl

theorem ldAMemHl : Statement .ldAMemHl := fun _ => rfl

theorem ldAA : Statement .ldAA := fun _ => rfl

theorem addAB : Statement .addAB := fun _ => rfl

theorem addAC : Statement .addAC := fun _ => rfl

theorem addAD : Statement .addAD := fun _ => rfl

theorem addAE : Statement .addAE := fun _ => rfl

theorem addAH : Statement .addAH := fun _ => rfl

theorem addAL : Statement .addAL := fun _ => rfl

theorem addAMemHl : Statement .addAMemHl := fun _ => rfl

theorem addAA : Statement .addAA := fun _ => rfl

theorem adcAB : Statement .adcAB := fun _ => rfl

theorem adcAC : Statement .adcAC := fun _ => rfl

theorem adcAD : Statement .adcAD := fun _ => rfl

theorem adcAE : Statement .adcAE := fun _ => rfl

theorem adcAH : Statement .adcAH := fun _ => rfl

theorem adcAL : Statement .adcAL := fun _ => rfl

theorem adcAMemHl : Statement .adcAMemHl := fun _ => rfl

theorem adcAA : Statement .adcAA := fun _ => rfl

theorem subB : Statement .subB := fun _ => rfl

theorem subC : Statement .subC := fun _ => rfl

theorem subD : Statement .subD := fun _ => rfl

theorem subE : Statement .subE := fun _ => rfl

theorem subH : Statement .subH := fun _ => rfl

theorem subL : Statement .subL := fun _ => rfl

theorem subMemHl : Statement .subMemHl := fun _ => rfl

theorem subA : Statement .subA := fun _ => rfl

theorem sbcAB : Statement .sbcAB := fun _ => rfl

theorem sbcAC : Statement .sbcAC := fun _ => rfl

theorem sbcAD : Statement .sbcAD := fun _ => rfl

theorem sbcAE : Statement .sbcAE := fun _ => rfl

theorem sbcAH : Statement .sbcAH := fun _ => rfl

theorem sbcAL : Statement .sbcAL := fun _ => rfl

theorem sbcAMemHl : Statement .sbcAMemHl := fun _ => rfl

theorem sbcAA : Statement .sbcAA := fun _ => rfl

theorem andB : Statement .andB := fun _ => rfl

theorem andC : Statement .andC := fun _ => rfl

theorem andD : Statement .andD := fun _ => rfl

theorem andE : Statement .andE := fun _ => rfl

theorem andH : Statement .andH := fun _ => rfl

theorem andL : Statement .andL := fun _ => rfl

theorem andMemHl : Statement .andMemHl := fun _ => rfl

theorem andA : Statement .andA := fun _ => rfl

theorem xorB : Statement .xorB := fun _ => rfl

theorem xorC : Statement .xorC := fun _ => rfl

theorem xorD : Statement .xorD := fun _ => rfl

theorem xorE : Statement .xorE := fun _ => rfl

theorem xorH : Statement .xorH := fun _ => rfl

theorem xorL : Statement .xorL := fun _ => rfl

theorem xorMemHl : Statement .xorMemHl := fun _ => rfl

theorem xorA : Statement .xorA := fun _ => rfl

theorem orB : Statement .orB := fun _ => rfl

theorem orC : Statement .orC := fun _ => rfl

theorem orD : Statement .orD := fun _ => rfl

theorem orE : Statement .orE := fun _ => rfl

theorem orH : Statement .orH := fun _ => rfl

theorem orL : Statement .orL := fun _ => rfl

theorem orMemHl : Statement .orMemHl := fun _ => rfl

theorem orA : Statement .orA := fun _ => rfl

theorem cpB : Statement .cpB := fun _ => rfl

theorem cpC : Statement .cpC := fun _ => rfl

theorem cpD : Statement .cpD := fun _ => rfl

theorem cpE : Statement .cpE := fun _ => rfl

theorem cpH : Statement .cpH := fun _ => rfl

theorem cpL : Statement .cpL := fun _ => rfl

theorem cpMemHl : Statement .cpMemHl := fun _ => rfl

theorem cpA : Statement .cpA := fun _ => rfl

theorem retNz : Statement .retNz := fun _ => rfl

theorem popBc : Statement .popBc := fun _ => rfl

theorem jpNzA16 (a : Word) : Statement (.jpNzA16 a) := fun _ => rfl

theorem jpA16 (a : Word) : Statement (.jpA16 a) := fun _ => rfl

theorem callNzA16 (a : Word) : Statement (.callNzA16 a) := fun _ => rfl

theorem pushBc : Statement .pushBc := fun _ => rfl

theorem addAD8 (v : Byte) : Statement (.addAD8 v) := fun _ => rfl

theorem rst00 : Statement .rst00 := fun _ => rfl

theorem retZ : Statement .retZ := fun _ => rfl

theorem ret : Statement .ret := fun _ => rfl

theorem jpZA16 (a : Word) : Statement (.jpZA16 a) := fun _ => rfl

theorem prefixCb (op2 : Byte) : Statement (.prefixCb op2) := fun h => nomatch h

theorem callZA16 (a : Word) : Statement (.callZA16 a) := fun _ => rfl

theorem callA16 (a : Word) : Statement (.callA16 a) := fun _ => rfl

theorem adcAD8 (v : Byte) : Statement (.adcAD8 v) := fun _ => rfl

theorem rst08 : Statement .rst08 := fun _ => rfl

theorem retNc : Statement .retNc := fun _ => rfl

theorem popDe : Statement .popDe := fun _ => rfl

theorem jpNcA16 (a : Word) : Statement (.jpNcA16 a) := fun _ => rfl

theorem unimplementedD3 : Statement .unimplementedD3 := fun _ => rfl

theorem callNcA16 (a : Word) : Statement (.callNcA16 a) := fun _ => rfl

theorem pushDe : Statement .pushDe := fun _ => rfl

theorem subD8 (v : Byte) : Statement (.subD8 v) := fun _ => rfl

theorem rst10 : Statement .rst10 := fun _ => rfl

theorem retC : Statement .retC := fun _ => rfl

theorem reti : Statement .reti := fun _ => rfl

theorem jpCA16 (a : Word) : Statement (.jpCA16 a) := fun _ => rfl

theorem unimplementedDB : Statement .unimplementedDB := fun _ => rfl

theorem callCA16 (a : Word) : Statement (.callCA16 a) := fun _ => rfl

theorem unimplementedDD : Statement .unimplementedDD := fun _ => rfl

theorem sbcAD8 (v : Byte) : Statement (.sbcAD8 v) := fun _ => rfl

theorem rst18 : Statement .rst18 := fun _ => rfl

theorem ldhMemA8A (n : Byte) : Statement (.ldhMemA8A n) := fun _ => rfl

theorem popHl : Statement .popHl := fun _ => rfl

theorem ldMemCA : Statement .ldMemCA := fun _ => rfl

theorem unimplementedE3 : Statement .unimplementedE3 := fun _ => rfl

theorem unimplementedE4 : Statement .unimplementedE4 := fun _ => rfl

theorem pushHl : Statement .pushHl := fun _ => rfl

theorem andD8 (v : Byte) : Statement (.andD8 v) := fun _ => rfl

theorem rst20 : Statement .rst20 := fun _ => rfl

theorem addSpE8 (e : Byte) : Statement (.addSpE8 e) := fun _ => rfl

theorem jpHl : Statement .jpHl := fun _ => rfl

theorem ldMemA16A (a : Word) : Statement (.ldMemA16A a) := fun _ => rfl

theorem unimplementedEB : Statement .unimplementedEB := fun _ => rfl

theorem unimplementedEC : Statement .unimplementedEC := fun _ => rfl

theorem unimplementedED : Statement .unimplementedED := fun _ => rfl

theorem xorD8 (v : Byte) : Statement (.xorD8 v) := fun _ => rfl

theorem rst28 : Statement .rst28 := fun _ => rfl

theorem ldhAMemA8 (n : Byte) : Statement (.ldhAMemA8 n) := fun _ => rfl

theorem popAf : Statement .popAf := fun _ => rfl

theorem ldAMemC : Statement .ldAMemC := fun _ => rfl

theorem di : Statement .di := fun _ => rfl

theorem unimplementedF4 : Statement .unimplementedF4 := fun _ => rfl

theorem pushAf : Statement .pushAf := fun _ => rfl

theorem orD8 (v : Byte) : Statement (.orD8 v) := fun _ => rfl

theorem rst30 : Statement .rst30 := fun _ => rfl

theorem ldHlSpE8 (e : Byte) : Statement (.ldHlSpE8 e) := fun _ => rfl

theorem ldSpHl : Statement .ldSpHl := fun _ => rfl

theorem ldAMemA16 (a : Word) : Statement (.ldAMemA16 a) := fun _ => rfl

theorem ei : Statement .ei := fun _ => rfl

theorem unimplementedFC : Statement .unimplementedFC := fun _ => rfl

theorem unimplementedFD : Statement .unimplementedFD := fun _ => rfl

theorem cpD8 (v : Byte) : Statement (.cpD8 v) := fun _ => rfl

theorem rst38 : Statement .rst38 := fun _ => rfl

theorem rlcB : Statement .rlcB := fun _ => rfl

theorem rlcC : Statement .rlcC := fun _ => rfl

theorem rlcD : Statement .rlcD := fun _ => rfl

theorem rlcE : Statement .rlcE := fun _ => rfl

theorem rlcH : Statement .rlcH := fun _ => rfl

theorem rlcL : Statement .rlcL := fun _ => rfl

theorem rlcMemHl : Statement .rlcMemHl := fun _ => rfl

theorem rlcA : Statement .rlcA := fun _ => rfl

theorem rrcB : Statement .rrcB := fun _ => rfl

theorem rrcC : Statement .rrcC := fun _ => rfl

theorem rrcD : Statement .rrcD := fun _ => rfl

theorem rrcE : Statement .rrcE := fun _ => rfl

theorem rrcH : Statement .rrcH := fun _ => rfl

theorem rrcL : Statement .rrcL := fun _ => rfl

theorem rrcMemHl : Statement .rrcMemHl := fun _ => rfl

theorem rrcA : Statement .rrcA := fun _ => rfl

theorem rlB : Statement .rlB := fun _ => rfl

theorem rlC : Statement .rlC := fun _ => rfl

theorem rlD : Statement .rlD := fun _ => rfl

theorem rlE : Statement .rlE := fun _ => rfl

theorem rlH : Statement .rlH := fun _ => rfl

theorem rlL : Statement .rlL := fun _ => rfl

theorem rlMemHl : Statement .rlMemHl := fun _ => rfl

theorem rlA : Statement .rlA := fun _ => rfl

theorem rrB : Statement .rrB := fun _ => rfl

theorem rrC : Statement .rrC := fun _ => rfl

theorem rrD : Statement .rrD := fun _ => rfl

theorem rrE : Statement .rrE := fun _ => rfl

theorem rrH : Statement .rrH := fun _ => rfl

theorem rrL : Statement .rrL := fun _ => rfl

theorem rrMemHl : Statement .rrMemHl := fun _ => rfl

theorem rrA : Statement .rrA := fun _ => rfl

theorem slaB : Statement .slaB := fun _ => rfl

theorem slaC : Statement .slaC := fun _ => rfl

theorem slaD : Statement .slaD := fun _ => rfl

theorem slaE : Statement .slaE := fun _ => rfl

theorem slaH : Statement .slaH := fun _ => rfl

theorem slaL : Statement .slaL := fun _ => rfl

theorem slaMemHl : Statement .slaMemHl := fun _ => rfl

theorem slaA : Statement .slaA := fun _ => rfl

theorem sraB : Statement .sraB := fun _ => rfl

theorem sraC : Statement .sraC := fun _ => rfl

theorem sraD : Statement .sraD := fun _ => rfl

theorem sraE : Statement .sraE := fun _ => rfl

theorem sraH : Statement .sraH := fun _ => rfl

theorem sraL : Statement .sraL := fun _ => rfl

theorem sraMemHl : Statement .sraMemHl := fun _ => rfl

theorem sraA : Statement .sraA := fun _ => rfl

theorem swapB : Statement .swapB := fun _ => rfl

theorem swapC : Statement .swapC := fun _ => rfl

theorem swapD : Statement .swapD := fun _ => rfl

theorem swapE : Statement .swapE := fun _ => rfl

theorem swapH : Statement .swapH := fun _ => rfl

theorem swapL : Statement .swapL := fun _ => rfl

theorem swapMemHl : Statement .swapMemHl := fun _ => rfl

theorem swapA : Statement .swapA := fun _ => rfl

theorem srlB : Statement .srlB := fun _ => rfl

theorem srlC : Statement .srlC := fun _ => rfl

theorem srlD : Statement .srlD := fun _ => rfl

theorem srlE : Statement .srlE := fun _ => rfl

theorem srlH : Statement .srlH := fun _ => rfl

theorem srlL : Statement .srlL := fun _ => rfl

theorem srlMemHl : Statement .srlMemHl := fun _ => rfl

theorem srlA : Statement .srlA := fun _ => rfl

theorem bit0B : Statement .bit0B := fun _ => rfl

theorem bit0C : Statement .bit0C := fun _ => rfl

theorem bit0D : Statement .bit0D := fun _ => rfl

theorem bit0E : Statement .bit0E := fun _ => rfl

theorem bit0H : Statement .bit0H := fun _ => rfl

theorem bit0L : Statement .bit0L := fun _ => rfl

theorem bit0MemHl : Statement .bit0MemHl := fun _ => rfl

theorem bit0A : Statement .bit0A := fun _ => rfl

theorem bit1B : Statement .bit1B := fun _ => rfl

theorem bit1C : Statement .bit1C := fun _ => rfl

theorem bit1D : Statement .bit1D := fun _ => rfl

theorem bit1E : Statement .bit1E := fun _ => rfl

theorem bit1H : Statement .bit1H := fun _ => rfl

theorem bit1L : Statement .bit1L := fun _ => rfl

theorem bit1MemHl : Statement .bit1MemHl := fun _ => rfl

theorem bit1A : Statement .bit1A := fun _ => rfl

theorem bit2B : Statement .bit2B := fun _ => rfl

theorem bit2C : Statement .bit2C := fun _ => rfl

theorem bit2D : Statement .bit2D := fun _ => rfl

theorem bit2E : Statement .bit2E := fun _ => rfl

theorem bit2H : Statement .bit2H := fun _ => rfl

theorem bit2L : Statement .bit2L := fun _ => rfl

theorem bit2MemHl : Statement .bit2MemHl := fun _ => rfl

theorem bit2A : Statement .bit2A := fun _ => rfl

theorem bit3B : Statement .bit3B := fun _ => rfl

theorem bit3C : Statement .bit3C := fun _ => rfl

theorem bit3D : Statement .bit3D := fun _ => rfl

theorem bit3E : Statement .bit3E := fun _ => rfl

theorem bit3H : Statement .bit3H := fun _ => rfl

theorem bit3L : Statement .bit3L := fun _ => rfl

theorem bit3MemHl : Statement .bit3MemHl := fun _ => rfl

theorem bit3A : Statement .bit3A := fun _ => rfl

theorem bit4B : Statement .bit4B := fun _ => rfl

theorem bit4C : Statement .bit4C := fun _ => rfl

theorem bit4D : Statement .bit4D := fun _ => rfl

theorem bit4E : Statement .bit4E := fun _ => rfl

theorem bit4H : Statement .bit4H := fun _ => rfl

theorem bit4L : Statement .bit4L := fun _ => rfl

theorem bit4MemHl : Statement .bit4MemHl := fun _ => rfl

theorem bit4A : Statement .bit4A := fun _ => rfl

theorem bit5B : Statement .bit5B := fun _ => rfl

theorem bit5C : Statement .bit5C := fun _ => rfl

theorem bit5D : Statement .bit5D := fun _ => rfl

theorem bit5E : Statement .bit5E := fun _ => rfl

theorem bit5H : Statement .bit5H := fun _ => rfl

theorem bit5L : Statement .bit5L := fun _ => rfl

theorem bit5MemHl : Statement .bit5MemHl := fun _ => rfl

theorem bit5A : Statement .bit5A := fun _ => rfl

theorem bit6B : Statement .bit6B := fun _ => rfl

theorem bit6C : Statement .bit6C := fun _ => rfl

theorem bit6D : Statement .bit6D := fun _ => rfl

theorem bit6E : Statement .bit6E := fun _ => rfl

theorem bit6H : Statement .bit6H := fun _ => rfl

theorem bit6L : Statement .bit6L := fun _ => rfl

theorem bit6MemHl : Statement .bit6MemHl := fun _ => rfl

theorem bit6A : Statement .bit6A := fun _ => rfl

theorem bit7B : Statement .bit7B := fun _ => rfl

theorem bit7C : Statement .bit7C := fun _ => rfl

theorem bit7D : Statement .bit7D := fun _ => rfl

theorem bit7E : Statement .bit7E := fun _ => rfl

theorem bit7H : Statement .bit7H := fun _ => rfl

theorem bit7L : Statement .bit7L := fun _ => rfl

theorem bit7MemHl : Statement .bit7MemHl := fun _ => rfl

theorem bit7A : Statement .bit7A := fun _ => rfl

theorem res0B : Statement .res0B := fun _ => rfl

theorem res0C : Statement .res0C := fun _ => rfl

theorem res0D : Statement .res0D := fun _ => rfl

theorem res0E : Statement .res0E := fun _ => rfl

theorem res0H : Statement .res0H := fun _ => rfl

theorem res0L : Statement .res0L := fun _ => rfl

theorem res0MemHl : Statement .res0MemHl := fun _ => rfl

theorem res0A : Statement .res0A := fun _ => rfl

theorem res1B : Statement .res1B := fun _ => rfl

theorem res1C : Statement .res1C := fun _ => rfl

theorem res1D : Statement .res1D := fun _ => rfl

theorem res1E : Statement .res1E := fun _ => rfl

theorem res1H : Statement .res1H := fun _ => rfl

theorem res1L : Statement .res1L := fun _ => rfl

theorem res1MemHl : Statement .res1MemHl := fun _ => rfl

theorem res1A : Statement .res1A := fun _ => rfl

theorem res2B : Statement .res2B := fun _ => rfl

theorem res2C : Statement .res2C := fun _ => rfl

theorem res2D : Statement .res2D := fun _ => rfl

theorem res2E : Statement .res2E := fun _ => rfl

theorem res2H : Statement .res2H := fun _ => rfl

theorem res2L : Statement .res2L := fun _ => rfl

theorem res2MemHl : Statement .res2MemHl := fun _ => rfl

theorem res2A : Statement .res2A := fun _ => rfl

theorem res3B : Statement .res3B := fun _ => rfl

theorem res3C : Statement .res3C := fun _ => rfl

theorem res3D : Statement .res3D := fun _ => rfl

theorem res3E : Statement .res3E := fun _ => rfl

theorem res3H : Statement .res3H := fun _ => rfl

theorem res3L : Statement .res3L := fun _ => rfl

theorem res3MemHl : Statement .res3MemHl := fun _ => rfl

theorem res3A : Statement .res3A := fun _ => rfl

theorem res4B : Statement .res4B := fun _ => rfl

theorem res4C : Statement .res4C := fun _ => rfl

theorem res4D : Statement .res4D := fun _ => rfl

theorem res4E : Statement .res4E := fun _ => rfl

theorem res4H : Statement .res4H := fun _ => rfl

theorem res4L : Statement .res4L := fun _ => rfl

theorem res4MemHl : Statement .res4MemHl := fun _ => rfl

theorem res4A : Statement .res4A := fun _ => rfl

theorem res5B : Statement .res5B := fun _ => rfl

theorem res5C : Statement .res5C := fun _ => rfl

theorem res5D : Statement .res5D := fun _ => rfl

theorem res5E : Statement .res5E := fun _ => rfl

theorem res5H : Statement .res5H := fun _ => rfl

theorem res5L : Statement .res5L := fun _ => rfl

theorem res5MemHl : Statement .res5MemHl := fun _ => rfl

theorem res5A : Statement .res5A := fun _ => rfl

theorem res6B : Statement .res6B := fun _ => rfl

theorem res6C : Statement .res6C := fun _ => rfl

theorem res6D : Statement .res6D := fun _ => rfl

theorem res6E : Statement .res6E := fun _ => rfl

theorem res6H : Statement .res6H := fun _ => rfl

theorem res6L : Statement .res6L := fun _ => rfl

theorem res6MemHl : Statement .res6MemHl := fun _ => rfl

theorem res6A : Statement .res6A := fun _ => rfl

theorem res7B : Statement .res7B := fun _ => rfl

theorem res7C : Statement .res7C := fun _ => rfl

theorem res7D : Statement .res7D := fun _ => rfl

theorem res7E : Statement .res7E := fun _ => rfl

theorem res7H : Statement .res7H := fun _ => rfl

theorem res7L : Statement .res7L := fun _ => rfl

theorem res7MemHl : Statement .res7MemHl := fun _ => rfl

theorem res7A : Statement .res7A := fun _ => rfl

theorem set0B : Statement .set0B := fun _ => rfl

theorem set0C : Statement .set0C := fun _ => rfl

theorem set0D : Statement .set0D := fun _ => rfl

theorem set0E : Statement .set0E := fun _ => rfl

theorem set0H : Statement .set0H := fun _ => rfl

theorem set0L : Statement .set0L := fun _ => rfl

theorem set0MemHl : Statement .set0MemHl := fun _ => rfl

theorem set0A : Statement .set0A := fun _ => rfl

theorem set1B : Statement .set1B := fun _ => rfl

theorem set1C : Statement .set1C := fun _ => rfl

theorem set1D : Statement .set1D := fun _ => rfl

theorem set1E : Statement .set1E := fun _ => rfl

theorem set1H : Statement .set1H := fun _ => rfl

theorem set1L : Statement .set1L := fun _ => rfl

theorem set1MemHl : Statement .set1MemHl := fun _ => rfl

theorem set1A : Statement .set1A := fun _ => rfl

theorem set2B : Statement .set2B := fun _ => rfl

theorem set2C : Statement .set2C := fun _ => rfl

theorem set2D : Statement .set2D := fun _ => rfl

theorem set2E : Statement .set2E := fun _ => rfl

theorem set2H : Statement .set2H := fun _ => rfl

theorem set2L : Statement .set2L := fun _ => rfl

theorem set2MemHl : Statement .set2MemHl := fun _ => rfl

theorem set2A : Statement .set2A := fun _ => rfl

theorem set3B : Statement .set3B := fun _ => rfl

theorem set3C : Statement .set3C := fun _ => rfl

theorem set3D : Statement .set3D := fun _ => rfl

theorem set3E : Statement .set3E := fun _ => rfl

theorem set3H : Statement .set3H := fun _ => rfl

theorem set3L : Statement .set3L := fun _ => rfl

theorem set3MemHl : Statement .set3MemHl := fun _ => rfl

theorem set3A : Statement .set3A := fun _ => rfl

theorem set4B : Statement .set4B := fun _ => rfl

theorem set4C : Statement .set4C := fun _ => rfl

theorem set4D : Statement .set4D := fun _ => rfl

theorem set4E : Statement .set4E := fun _ => rfl

theorem set4H : Statement .set4H := fun _ => rfl

theorem set4L : Statement .set4L := fun _ => rfl

theorem set4MemHl : Statement .set4MemHl := fun _ => rfl

theorem set4A : Statement .set4A := fun _ => rfl

theorem set5B : Statement .set5B := fun _ => rfl

theorem set5C : Statement .set5C := fun _ => rfl

theorem set5D : Statement .set5D := fun _ => rfl

theorem set5E : Statement .set5E := fun _ => rfl

theorem set5H : Statement .set5H := fun _ => rfl

theorem set5L : Statement .set5L := fun _ => rfl

theorem set5MemHl : Statement .set5MemHl := fun _ => rfl

theorem set5A : Statement .set5A := fun _ => rfl

theorem set6B : Statement .set6B := fun _ => rfl

theorem set6C : Statement .set6C := fun _ => rfl

theorem set6D : Statement .set6D := fun _ => rfl

theorem set6E : Statement .set6E := fun _ => rfl

theorem set6H : Statement .set6H := fun _ => rfl

theorem set6L : Statement .set6L := fun _ => rfl

theorem set6MemHl : Statement .set6MemHl := fun _ => rfl

theorem set6A : Statement .set6A := fun _ => rfl

theorem set7B : Statement .set7B := fun _ => rfl

theorem set7C : Statement .set7C := fun _ => rfl

theorem set7D : Statement .set7D := fun _ => rfl

theorem set7E : Statement .set7E := fun _ => rfl

theorem set7H : Statement .set7H := fun _ => rfl

theorem set7L : Statement .set7L := fun _ => rfl

theorem set7MemHl : Statement .set7MemHl := fun _ => rfl

theorem set7A : Statement .set7A := fun _ => rfl

end Sys2Proof.Laws.EncodedLength
end

