-- ==== Sys2Proof/Tests/Slice0.lean ====
section
/-! SUPPORT. Tests of the model, each expected result from spec/ (95_test_vectors.md, 30_encoding.md, the opcode table), and
a witness for the hypotheses of every statement that has some. -/

namespace Sys2Proof.Tests

open Sys2Proof Sys2Proof.Machine

/-! ### Helpers -/

/-- The reset state with these bytes of program at 0x0100, these registers and these bytes stored. -/
def startWith (bytes : List Byte) (regs : Regs) (cells : List (Word × Byte)) : State :=
  cells.foldl (fun s c => s.store c.1 c.2) { State.reset.placeBytes 0x0100 bytes with regs := regs }

/-- The engine's step ends in these registers with this outcome, these bytes reading so. -/
def stepsTo (s : State) (regs : Regs) (o : StepOutcome) (cells : List (Word × Byte)) : Bool :=
  match engineStep s with
  | .next t => decide (t.regs = regs) && decide (t.outcome = some o) && cells.all fun c => t.peek c.1 == c.2
  | _ => false

/-- The 16 instructions the decoder reads from 16 words in a row, numbered as the table numbers them. -/
def decodeRow (nbits w : Nat) : List Instr := (List.range 16).filterMap fun lo => decodeTableWord nbits (w + lo)

/-! ### Well-formedness: the bare prefix is refused (30_encoding.md R125) -/

theorem test_wellFormed_refuses_prefix : (Instr.prefixCb 0x00).WellFormed = false := rfl

theorem test_wellFormed_accepts_selected_row : (decodeExtended 0x00).WellFormed = true := rfl

/-! ### Decoding: the opcode maps, row by row (R133, R134), operand bytes 12 34 -/

theorem test_decode_base_0 : decodeRow 24 0x341200 =
    [ .nop, .ldBcD16 0x3412, .ldMemBcA, .incBc, .incB, .decB, .ldBD8 0x12, .rlca, .ldMemA16Sp 0x3412, .addHlBc,
      .ldAMemBc, .decBc, .incC, .decC, .ldCD8 0x12, .rrca ] := rfl

theorem test_decode_base_1 : decodeRow 24 0x341210 =
    [ .stop 0x12, .ldDeD16 0x3412, .ldMemDeA, .incDe, .incD, .decD, .ldDD8 0x12, .rla, .jrE8 0x12, .addHlDe,
      .ldAMemDe, .decDe, .incE, .decE, .ldED8 0x12, .rra ] := rfl

theorem test_decode_base_2 : decodeRow 24 0x341220 =
    [ .jrNzE8 0x12, .ldHlD16 0x3412, .ldMemHlIncA, .incHl, .incH, .decH, .ldHD8 0x12, .daa, .jrZE8 0x12, .addHlHl,
      .ldAMemHlInc, .decHl, .incL, .decL, .ldLD8 0x12, .cpl ] := rfl

theorem test_decode_base_3 : decodeRow 24 0x341230 =
    [ .jrNcE8 0x12, .ldSpD16 0x3412, .ldMemHlDecA, .incSp, .incMemHl, .decMemHl, .ldMemHlD8 0x12, .scf, .jrCE8 0x12,
      .addHlSp, .ldAMemHlDec, .decSp, .incA, .decA, .ldAD8 0x12, .ccf ] := rfl

theorem test_decode_base_4 : decodeRow 24 0x341240 =
    [ .ldBB, .ldBC, .ldBD, .ldBE, .ldBH, .ldBL, .ldBMemHl, .ldBA, .ldCB, .ldCC, .ldCD, .ldCE, .ldCH, .ldCL, .ldCMemHl,
      .ldCA ] := rfl

theorem test_decode_base_5 : decodeRow 24 0x341250 =
    [ .ldDB, .ldDC, .ldDD, .ldDE, .ldDH, .ldDL, .ldDMemHl, .ldDA, .ldEB, .ldEC, .ldED, .ldEE, .ldEH, .ldEL, .ldEMemHl,
      .ldEA ] := rfl

theorem test_decode_base_6 : decodeRow 24 0x341260 =
    [ .ldHB, .ldHC, .ldHD, .ldHE, .ldHH, .ldHL, .ldHMemHl, .ldHA, .ldLB, .ldLC, .ldLD, .ldLE, .ldLH, .ldLL, .ldLMemHl,
      .ldLA ] := rfl

theorem test_decode_base_7 : decodeRow 24 0x341270 =
    [ .ldMemHlB, .ldMemHlC, .ldMemHlD, .ldMemHlE, .ldMemHlH, .ldMemHlL, .halt, .ldMemHlA, .ldAB, .ldAC, .ldAD, .ldAE,
      .ldAH, .ldAL, .ldAMemHl, .ldAA ] := rfl

theorem test_decode_base_8 : decodeRow 24 0x341280 =
    [ .addAB, .addAC, .addAD, .addAE, .addAH, .addAL, .addAMemHl, .addAA, .adcAB, .adcAC, .adcAD, .adcAE, .adcAH,
      .adcAL, .adcAMemHl, .adcAA ] := rfl

theorem test_decode_base_9 : decodeRow 24 0x341290 =
    [ .subB, .subC, .subD, .subE, .subH, .subL, .subMemHl, .subA, .sbcAB, .sbcAC, .sbcAD, .sbcAE, .sbcAH, .sbcAL,
      .sbcAMemHl, .sbcAA ] := rfl

theorem test_decode_base_a : decodeRow 24 0x3412A0 =
    [ .andB, .andC, .andD, .andE, .andH, .andL, .andMemHl, .andA, .xorB, .xorC, .xorD, .xorE, .xorH, .xorL, .xorMemHl,
      .xorA ] := rfl

theorem test_decode_base_b : decodeRow 24 0x3412B0 =
    [ .orB, .orC, .orD, .orE, .orH, .orL, .orMemHl, .orA, .cpB, .cpC, .cpD, .cpE, .cpH, .cpL, .cpMemHl, .cpA ] := rfl

theorem test_decode_base_c : decodeRow 24 0x3412C0 =
    [ .retNz, .popBc, .jpNzA16 0x3412, .jpA16 0x3412, .callNzA16 0x3412, .pushBc, .addAD8 0x12, .rst00, .retZ, .ret,
      .jpZA16 0x3412, .rlD, .callZA16 0x3412, .callA16 0x3412, .adcAD8 0x12, .rst08 ] := rfl

theorem test_decode_base_d : decodeRow 24 0x3412D0 =
    [ .retNc, .popDe, .jpNcA16 0x3412, .unimplementedD3, .callNcA16 0x3412, .pushDe, .subD8 0x12, .rst10, .retC,
      .reti, .jpCA16 0x3412, .unimplementedDB, .callCA16 0x3412, .unimplementedDD, .sbcAD8 0x12, .rst18 ] := rfl

theorem test_decode_base_e : decodeRow 24 0x3412E0 =
    [ .ldhMemA8A 0x12, .popHl, .ldMemCA, .unimplementedE3, .unimplementedE4, .pushHl, .andD8 0x12, .rst20,
      .addSpE8 0x12, .jpHl, .ldMemA16A 0x3412, .unimplementedEB, .unimplementedEC, .unimplementedED,
      .xorD8 0x12, .rst28 ] := rfl

theorem test_decode_base_f : decodeRow 24 0x3412F0 =
    [ .ldhAMemA8 0x12, .popAf, .ldAMemC, .di, .unimplementedF4, .pushAf, .orD8 0x12, .rst30, .ldHlSpE8 0x12, .ldSpHl,
      .ldAMemA16 0x3412, .ei, .unimplementedFC, .unimplementedFD, .cpD8 0x12, .rst38 ] := rfl

theorem test_decode_prefixed_0 : decodeRow 16 0xCB00 =
    [ .rlcB, .rlcC, .rlcD, .rlcE, .rlcH, .rlcL, .rlcMemHl, .rlcA, .rrcB, .rrcC, .rrcD, .rrcE, .rrcH, .rrcL, .rrcMemHl,
      .rrcA ] := rfl

theorem test_decode_prefixed_1 : decodeRow 16 0xCB10 =
    [ .rlB, .rlC, .rlD, .rlE, .rlH, .rlL, .rlMemHl, .rlA, .rrB, .rrC, .rrD, .rrE, .rrH, .rrL, .rrMemHl, .rrA ] := rfl

theorem test_decode_prefixed_2 : decodeRow 16 0xCB20 =
    [ .slaB, .slaC, .slaD, .slaE, .slaH, .slaL, .slaMemHl, .slaA, .sraB, .sraC, .sraD, .sraE, .sraH, .sraL, .sraMemHl,
      .sraA ] := rfl

theorem test_decode_prefixed_3 : decodeRow 16 0xCB30 =
    [ .swapB, .swapC, .swapD, .swapE, .swapH, .swapL, .swapMemHl, .swapA, .srlB, .srlC, .srlD, .srlE, .srlH, .srlL,
      .srlMemHl, .srlA ] := rfl

theorem test_decode_prefixed_4 : decodeRow 16 0xCB40 =
    [ .bit0B, .bit0C, .bit0D, .bit0E, .bit0H, .bit0L, .bit0MemHl, .bit0A, .bit1B, .bit1C, .bit1D, .bit1E, .bit1H,
      .bit1L, .bit1MemHl, .bit1A ] := rfl

theorem test_decode_prefixed_5 : decodeRow 16 0xCB50 =
    [ .bit2B, .bit2C, .bit2D, .bit2E, .bit2H, .bit2L, .bit2MemHl, .bit2A, .bit3B, .bit3C, .bit3D, .bit3E, .bit3H,
      .bit3L, .bit3MemHl, .bit3A ] := rfl

theorem test_decode_prefixed_6 : decodeRow 16 0xCB60 =
    [ .bit4B, .bit4C, .bit4D, .bit4E, .bit4H, .bit4L, .bit4MemHl, .bit4A, .bit5B, .bit5C, .bit5D, .bit5E, .bit5H,
      .bit5L, .bit5MemHl, .bit5A ] := rfl

theorem test_decode_prefixed_7 : decodeRow 16 0xCB70 =
    [ .bit6B, .bit6C, .bit6D, .bit6E, .bit6H, .bit6L, .bit6MemHl, .bit6A, .bit7B, .bit7C, .bit7D, .bit7E, .bit7H,
      .bit7L, .bit7MemHl, .bit7A ] := rfl

theorem test_decode_prefixed_8 : decodeRow 16 0xCB80 =
    [ .res0B, .res0C, .res0D, .res0E, .res0H, .res0L, .res0MemHl, .res0A, .res1B, .res1C, .res1D, .res1E, .res1H,
      .res1L, .res1MemHl, .res1A ] := rfl

theorem test_decode_prefixed_9 : decodeRow 16 0xCB90 =
    [ .res2B, .res2C, .res2D, .res2E, .res2H, .res2L, .res2MemHl, .res2A, .res3B, .res3C, .res3D, .res3E, .res3H,
      .res3L, .res3MemHl, .res3A ] := rfl

theorem test_decode_prefixed_a : decodeRow 16 0xCBA0 =
    [ .res4B, .res4C, .res4D, .res4E, .res4H, .res4L, .res4MemHl, .res4A, .res5B, .res5C, .res5D, .res5E, .res5H,
      .res5L, .res5MemHl, .res5A ] := rfl

theorem test_decode_prefixed_b : decodeRow 16 0xCBB0 =
    [ .res6B, .res6C, .res6D, .res6E, .res6H, .res6L, .res6MemHl, .res6A, .res7B, .res7C, .res7D, .res7E, .res7H,
      .res7L, .res7MemHl, .res7A ] := rfl

theorem test_decode_prefixed_c : decodeRow 16 0xCBC0 =
    [ .set0B, .set0C, .set0D, .set0E, .set0H, .set0L, .set0MemHl, .set0A, .set1B, .set1C, .set1D, .set1E, .set1H,
      .set1L, .set1MemHl, .set1A ] := rfl

theorem test_decode_prefixed_d : decodeRow 16 0xCBD0 =
    [ .set2B, .set2C, .set2D, .set2E, .set2H, .set2L, .set2MemHl, .set2A, .set3B, .set3C, .set3D, .set3E, .set3H,
      .set3L, .set3MemHl, .set3A ] := rfl

theorem test_decode_prefixed_e : decodeRow 16 0xCBE0 =
    [ .set4B, .set4C, .set4D, .set4E, .set4H, .set4L, .set4MemHl, .set4A, .set5B, .set5C, .set5D, .set5E, .set5H,
      .set5L, .set5MemHl, .set5A ] := rfl

theorem test_decode_prefixed_f : decodeRow 16 0xCBF0 =
    [ .set6B, .set6C, .set6D, .set6E, .set6H, .set6L, .set6MemHl, .set6A, .set7B, .set7C, .set7D, .set7E, .set7H,
      .set7L, .set7MemHl, .set7A ] := rfl

/-! ### One engine step: the spec's vectors (95_test_vectors.md section 2) -/

/-- V1: `LD B,A` (R140). -/
theorem test_v1_ld_b_a :
    stepsTo (startWith [0x47] { Regs.reset with a := 0x5A } [])
      { Regs.reset with a := 0x5A, f := 0xB0, b := 0x5A, pc := 0x0101 } (.cycles 1) [] = true := by decide

/-- V2: `LD A,d8` (R141). -/
theorem test_v2_ld_a_d8 :
    stepsTo (startWith [0x3E, 0x7F] Regs.reset []) { Regs.reset with a := 0x7F, f := 0xB0, pc := 0x0102 }
      (.cycles 2) [] = true := by decide

/-- V3: `LD A,(HL)` (R142). -/
theorem test_v3_ld_a_hl :
    stepsTo (startWith [0x7E] { Regs.reset with h := 0xC0, l := 0x00 } [(0xC000, 0x42)])
      { Regs.reset with h := 0xC0, l := 0x00, a := 0x42, f := 0xB0, pc := 0x0101 } (.cycles 2) []
      = true := by decide

/-- V4: `LD (HL),d8` (R144). -/
theorem test_v4_ld_hl_d8 :
    stepsTo (startWith [0x36, 0x99] { Regs.reset with h := 0xC0, l := 0x00 } [])
      { Regs.reset with h := 0xC0, l := 0x00, f := 0xB0, pc := 0x0102 } (.cycles 3) [(0xC000, 0x99)]
      = true := by decide

/-- V5: `LD (HL),B` (R143). -/
theorem test_v5_ld_hl_b :
    stepsTo (startWith [0x70] { Regs.reset with b := 0x00, h := 0x20, l := 0x00 } [])
      { Regs.reset with b := 0x00, h := 0x20, l := 0x00, f := 0xB0, pc := 0x0101 } (.cycles 2) []
      = true := by decide

/-- V6: `LD A,(BC)` (R145). -/
theorem test_v6_ld_a_bc :
    stepsTo (startWith [0x0A] { Regs.reset with b := 0xFF, c := 0x44 } [])
      { Regs.reset with b := 0xFF, c := 0x44, a := 0x00, f := 0xB0, pc := 0x0101 } (.cycles 2) []
      = true := by decide

/-- V7: `LD (DE),A` (R148). -/
theorem test_v7_ld_de_a :
    stepsTo (startWith [0x12] { Regs.reset with a := 0x77, d := 0xE0, e := 0x10 } [])
      { Regs.reset with a := 0x77, d := 0xE0, e := 0x10, f := 0xB0, pc := 0x0101 } (.cycles 2) [(0xC010, 0x77)]
      = true := by decide

/-- V8: `LD A,(a16)` (R149). -/
theorem test_v8_ld_a_a16 :
    stepsTo (startWith [0xFA, 0x00, 0xC0] Regs.reset [(0xC000, 0x3C)])
      { Regs.reset with a := 0x3C, f := 0xB0, pc := 0x0103 } (.cycles 4) [] = true := by decide

/-- V9: `LD (a16),A` (R150). -/
theorem test_v9_ld_a16_a :
    stepsTo (startWith [0xEA, 0xA0, 0xFE] { Regs.reset with a := 0x55 } [])
      { Regs.reset with a := 0x55, f := 0xB0, pc := 0x0103 } (.cycles 4) [(0xFEA0, 0xFF)] = true := by decide

/-- V10: `LDH A,(a8)` (R151). -/
theorem test_v10_ldh_a_a8 :
    stepsTo (startWith [0xF0, 0x41] Regs.reset []) { Regs.reset with a := 0x86, f := 0xB0, pc := 0x0102 }
      (.cycles 3) [] = true := by decide

/-- V11: `LDH (a8),A` (R152). -/
theorem test_v11_ldh_a8_a :
    stepsTo (startWith [0xE0, 0x41] { Regs.reset with a := 0xFF } [])
      { Regs.reset with a := 0xFF, f := 0xB0, pc := 0x0102 } (.cycles 3) [(0xFF41, 0xFE)] = true := by decide

/-- V13: `LD (C),A` (R154). -/
theorem test_v13_ld_c_a :
    stepsTo (startWith [0xE2] { Regs.reset with c := 0x80, a := 0xAB } [])
      { Regs.reset with c := 0x80, a := 0xAB, f := 0xB0, pc := 0x0101 } (.cycles 2) [(0xFF80, 0xAB)]
      = true := by decide

/-- V14: `LD A,(C)` (R153). -/
theorem test_v14_ld_a_c :
    stepsTo (startWith [0xF2] { Regs.reset with c := 0xFF } [])
      { Regs.reset with c := 0xFF, a := 0x00, f := 0xB0, pc := 0x0101 } (.cycles 2) [] = true := by decide

/-- V15: `LD (HL+),A` (R155). -/
theorem test_v15_ld_hlinc_a :
    stepsTo (startWith [0x22] { Regs.reset with a := 0x11, h := 0xC0, l := 0xFF } [])
      { Regs.reset with a := 0x11, h := 0xC1, l := 0x00, f := 0xB0, pc := 0x0101 } (.cycles 2) [(0xC0FF, 0x11)]
      = true := by decide

/-- V16: `LD (HL-),A` (R156). -/
theorem test_v16_ld_hldec_a :
    stepsTo (startWith [0x32] { Regs.reset with a := 0x0A, h := 0x00, l := 0x00 } [])
      { Regs.reset with a := 0x0A, h := 0xFF, l := 0xFF, f := 0xB0, pc := 0x0101 } (.cycles 2) []
      = true := by decide

/-- V17: `LD A,(HL+)` (R157). -/
theorem test_v17_ld_a_hlinc :
    stepsTo (startWith [0x2A] { Regs.reset with a := 0x33, h := 0xFF, l := 0xFF } [])
      { Regs.reset with a := 0x00, h := 0x00, l := 0x00, f := 0xB0, pc := 0x0101 } (.cycles 2) []
      = true := by decide

/-- V18: `LD A,(HL-)` (R158). -/
theorem test_v18_ld_a_hldec :
    stepsTo (startWith [0x3A] { Regs.reset with h := 0xC0, l := 0x00 } [(0xC000, 0x5E)])
      { Regs.reset with h := 0xBF, l := 0xFF, a := 0x5E, f := 0xB0, pc := 0x0101 } (.cycles 2) []
      = true := by decide

/-- V19: `LD HL,d16` (R159). -/
theorem test_v19_ld_hl_d16 :
    stepsTo (startWith [0x21, 0x34, 0x12] Regs.reset [])
      { Regs.reset with f := 0xB0, h := 0x12, l := 0x34, pc := 0x0103 } (.cycles 3) [] = true := by decide

/-- V21: `LD (a16),SP` (R160). -/
theorem test_v21_ld_a16_sp :
    stepsTo (startWith [0x08, 0x00, 0xC0] { Regs.reset with sp := 0xFFFE } [])
      { Regs.reset with sp := 0xFFFE, f := 0xB0, pc := 0x0103 } (.cycles 5) [(0xC000, 0xFE), (0xC001, 0xFF)]
      = true := by decide

/-- V22: `LD (a16),SP` (R160). -/
theorem test_v22_ld_a16_sp :
    stepsTo (startWith [0x08, 0xFF, 0xFF] { Regs.reset with sp := 0x12FE } [])
      { Regs.reset with sp := 0x12FE, f := 0xB0, pc := 0x0103 } (.cycles 5) [(0xFFFF, 0xFE)] = true := by decide

/-- V23: `LD SP,HL` (R161). -/
theorem test_v23_ld_sp_hl :
    stepsTo (startWith [0xF9] { Regs.reset with h := 0xC1, l := 0x23 } [])
      { Regs.reset with h := 0xC1, l := 0x23, f := 0xB0, sp := 0xC123, pc := 0x0101 } (.cycles 2) []
      = true := by decide

/-- V24: `PUSH BC` (R162). -/
theorem test_v24_push_bc :
    stepsTo (startWith [0xC5] { Regs.reset with sp := 0xFFFE, b := 0x12, c := 0x34 } [])
      { Regs.reset with sp := 0xFFFC, b := 0x12, c := 0x34, f := 0xB0, pc := 0x0101 } (.cycles 4)
      [(0xFFFD, 0x12), (0xFFFC, 0x34)] = true := by decide

/-- V25: `PUSH AF` (R162). -/
theorem test_v25_push_af :
    stepsTo (startWith [0xF5] { Regs.reset with sp := 0xC002, a := 0x01, f := 0xB0 } [])
      { Regs.reset with sp := 0xC000, a := 0x01, f := 0xB0, pc := 0x0101 } (.cycles 4)
      [(0xC001, 0x01), (0xC000, 0xB0)] = true := by decide

/-- V26: `POP DE` (R163). -/
theorem test_v26_pop_de :
    stepsTo (startWith [0xD1] { Regs.reset with sp := 0xC000 } [(0xC000, 0x34), (0xC001, 0x12)])
      { Regs.reset with sp := 0xC002, f := 0xB0, d := 0x12, e := 0x34, pc := 0x0101 } (.cycles 3) []
      = true := by decide

/-- V27: `POP AF` (R164). -/
theorem test_v27_pop_af :
    stepsTo (startWith [0xF1] { Regs.reset with sp := 0xC000 } [(0xC000, 0xFF), (0xC001, 0x12)])
      { Regs.reset with sp := 0xC002, a := 0x12, f := 0xF0, pc := 0x0101 } (.cycles 3) [] = true := by decide

/-- V29: `ADD A,B` (R171). -/
theorem test_v29_add_a_b :
    stepsTo (startWith [0x80] { Regs.reset with a := 0x3A, b := 0xC6 } [])
      { Regs.reset with a := 0x00, b := 0xC6, f := 0xB0, pc := 0x0101 } (.cycles 1) [] = true := by decide

/-- V30: `ADD A,d8` (R173). -/
theorem test_v30_add_a_d8 :
    stepsTo (startWith [0xC6, 0x0F] { Regs.reset with a := 0x01, f := 0x00 } [])
      { Regs.reset with a := 0x10, f := 0x20, pc := 0x0102 } (.cycles 2) [] = true := by decide

/-- V31: `ADD A,(HL)` (R172). -/
theorem test_v31_add_a_hl :
    stepsTo (startWith [0x86] { Regs.reset with a := 0x80, f := 0x00, h := 0xC0, l := 0x00 } [(0xC000, 0x80)])
      { Regs.reset with a := 0x00, f := 0x90, h := 0xC0, l := 0x00, pc := 0x0101 } (.cycles 2) []
      = true := by decide

/-- V32: `ADC A,d8` (R176). -/
theorem test_v32_adc_a_d8 :
    stepsTo (startWith [0xCE, 0x1E] { Regs.reset with a := 0xE1, f := 0x10 } [])
      { Regs.reset with a := 0x00, f := 0xB0, pc := 0x0102 } (.cycles 2) [] = true := by decide

/-- V33: `ADC A,B` (R174). -/
theorem test_v33_adc_a_b :
    stepsTo (startWith [0x88] { Regs.reset with a := 0x0F, b := 0x00, f := 0x10 } [])
      { Regs.reset with a := 0x10, b := 0x00, f := 0x20, pc := 0x0101 } (.cycles 1) [] = true := by decide

/-- V34: `SUB B` (R177). -/
theorem test_v34_sub_b :
    stepsTo (startWith [0x90] { Regs.reset with a := 0x3E, b := 0x3E } [])
      { Regs.reset with a := 0x00, b := 0x3E, f := 0xC0, pc := 0x0101 } (.cycles 1) [] = true := by decide

/-- V35: `SUB d8` (R179). -/
theorem test_v35_sub_d8 :
    stepsTo (startWith [0xD6, 0x0F] { Regs.reset with a := 0x3E, f := 0x00 } [])
      { Regs.reset with a := 0x2F, f := 0x60, pc := 0x0102 } (.cycles 2) [] = true := by decide

/-- V36: `SUB d8` (R179). -/
theorem test_v36_sub_d8 :
    stepsTo (startWith [0xD6, 0x40] { Regs.reset with a := 0x3E, f := 0x00 } [])
      { Regs.reset with a := 0xFE, f := 0x50, pc := 0x0102 } (.cycles 2) [] = true := by decide

/-- V37: `SBC A,d8` (R182). -/
theorem test_v37_sbc_a_d8 :
    stepsTo (startWith [0xDE, 0x2A] { Regs.reset with a := 0x3B, f := 0x10 } [])
      { Regs.reset with a := 0x10, f := 0x40, pc := 0x0102 } (.cycles 2) [] = true := by decide

/-- V38: `SBC A,d8` (R182). -/
theorem test_v38_sbc_a_d8 :
    stepsTo (startWith [0xDE, 0xFF] { Regs.reset with a := 0x00, f := 0x10 } [])
      { Regs.reset with a := 0x00, f := 0xF0, pc := 0x0102 } (.cycles 2) [] = true := by decide

/-- V39: `AND d8` (R185). -/
theorem test_v39_and_d8 :
    stepsTo (startWith [0xE6, 0x38] { Regs.reset with a := 0x5A, f := 0x00 } [])
      { Regs.reset with a := 0x18, f := 0x20, pc := 0x0102 } (.cycles 2) [] = true := by decide

/-- V40: `AND B` (R183). -/
theorem test_v40_and_b :
    stepsTo (startWith [0xA0] { Regs.reset with a := 0xF0, b := 0x0F, f := 0x10 } [])
      { Regs.reset with a := 0x00, b := 0x0F, f := 0xA0, pc := 0x0101 } (.cycles 1) [] = true := by decide

/-- V41: `XOR A` (R186). -/
theorem test_v41_xor_a :
    stepsTo (startWith [0xAF] { Regs.reset with a := 0x5A, f := 0x70 } [])
      { Regs.reset with a := 0x00, f := 0x80, pc := 0x0101 } (.cycles 1) [] = true := by decide

/-- V42: `OR d8` (R191). -/
theorem test_v42_or_d8 :
    stepsTo (startWith [0xF6, 0x03] { Regs.reset with a := 0x5A, f := 0xF0 } [])
      { Regs.reset with a := 0x5B, f := 0x00, pc := 0x0102 } (.cycles 2) [] = true := by decide

/-- V43: `CP d8` (R194). -/
theorem test_v43_cp_d8 :
    stepsTo (startWith [0xFE, 0x3C] { Regs.reset with a := 0x3C, f := 0x00 } [])
      { Regs.reset with a := 0x3C, f := 0xC0, pc := 0x0102 } (.cycles 2) [] = true := by decide

/-- V44: `CP d8` (R194). -/
theorem test_v44_cp_d8 :
    stepsTo (startWith [0xFE, 0x40] { Regs.reset with a := 0x3C, f := 0x00 } [])
      { Regs.reset with a := 0x3C, f := 0x50, pc := 0x0102 } (.cycles 2) [] = true := by decide

/-- V45: `CP (HL)` (R193). -/
theorem test_v45_cp_hl :
    stepsTo (startWith [0xBE] { Regs.reset with a := 0x10, f := 0x00, h := 0xC0, l := 0x00 } [(0xC000, 0x01)])
      { Regs.reset with a := 0x10, f := 0x60, h := 0xC0, l := 0x00, pc := 0x0101 } (.cycles 2) []
      = true := by decide

/-- V46: `INC B` (R195). -/
theorem test_v46_inc_b :
    stepsTo (startWith [0x04] { Regs.reset with b := 0x0F, f := 0xB0 } [])
      { Regs.reset with b := 0x10, f := 0x30, pc := 0x0101 } (.cycles 1) [] = true := by decide

/-- V48: `INC (HL)` (R196). -/
theorem test_v48_inc_hl :
    stepsTo (startWith [0x34] { Regs.reset with f := 0x10, h := 0xC0, l := 0x00 } [(0xC000, 0x7F)])
      { Regs.reset with f := 0x30, h := 0xC0, l := 0x00, pc := 0x0101 } (.cycles 3) [(0xC000, 0x80)]
      = true := by decide

/-- V49: `DEC B` (R197). -/
theorem test_v49_dec_b :
    stepsTo (startWith [0x05] { Regs.reset with b := 0x01, f := 0x10 } [])
      { Regs.reset with b := 0x00, f := 0xD0, pc := 0x0101 } (.cycles 1) [] = true := by decide

/-- V52: `DEC (HL)` (R198). -/
theorem test_v52_dec_hl :
    stepsTo (startWith [0x35] { Regs.reset with f := 0x00, h := 0xC0, l := 0x00 } [(0xC000, 0x00)])
      { Regs.reset with f := 0x60, h := 0xC0, l := 0x00, pc := 0x0101 } (.cycles 3) [(0xC000, 0xFF)]
      = true := by decide

/-- V53: `DAA` (R199). -/
theorem test_v53_daa :
    stepsTo (startWith [0x27] { Regs.reset with a := 0x7D, f := 0x00 } [])
      { Regs.reset with a := 0x83, f := 0x00, pc := 0x0101 } (.cycles 1) [] = true := by decide

/-- V55: `DAA` (R199). -/
theorem test_v55_daa :
    stepsTo (startWith [0x27] { Regs.reset with a := 0x9A, f := 0x00 } [])
      { Regs.reset with a := 0x00, f := 0x90, pc := 0x0101 } (.cycles 1) [] = true := by decide

/-- V57: `CPL` (R200). -/
theorem test_v57_cpl :
    stepsTo (startWith [0x2F] { Regs.reset with a := 0x35, f := 0x80 } [])
      { Regs.reset with a := 0xCA, f := 0xE0, pc := 0x0101 } (.cycles 1) [] = true := by decide

/-- V58: `SCF` (R201). -/
theorem test_v58_scf :
    stepsTo (startWith [0x37] { Regs.reset with f := 0xE0 } []) { Regs.reset with f := 0x90, pc := 0x0101 }
      (.cycles 1) [] = true := by decide

/-- V59: `CCF` (R202). -/
theorem test_v59_ccf :
    stepsTo (startWith [0x3F] { Regs.reset with f := 0xB0 } []) { Regs.reset with f := 0x80, pc := 0x0101 }
      (.cycles 1) [] = true := by decide

/-- V61: `ADD HL,BC` (R210). -/
theorem test_v61_add_hl_bc :
    stepsTo (startWith [0x09] { Regs.reset with f := 0x80, h := 0x8A, l := 0x23, b := 0x06, c := 0x05 } [])
      { Regs.reset with f := 0xA0, h := 0x90, l := 0x28, b := 0x06, c := 0x05, pc := 0x0101 } (.cycles 2) []
      = true := by decide

/-- V63: `ADD HL,SP` (R210). -/
theorem test_v63_add_hl_sp :
    stepsTo (startWith [0x39] { Regs.reset with sp := 0x0001, f := 0x40, h := 0xFF, l := 0xFF } [])
      { Regs.reset with sp := 0x0001, f := 0x30, h := 0x00, l := 0x00, pc := 0x0101 } (.cycles 2) []
      = true := by decide

/-- V64: `INC BC` (R211). -/
theorem test_v64_inc_bc :
    stepsTo (startWith [0x03] { Regs.reset with f := 0xB0, b := 0xFF, c := 0xFF } [])
      { Regs.reset with f := 0xB0, b := 0x00, c := 0x00, pc := 0x0101 } (.cycles 2) [] = true := by decide

/-- V65: `DEC SP` (R212). -/
theorem test_v65_dec_sp :
    stepsTo (startWith [0x3B] { Regs.reset with sp := 0x0000 } [])
      { Regs.reset with sp := 0xFFFF, f := 0xB0, pc := 0x0101 } (.cycles 2) [] = true := by decide

/-- V67: `ADD SP,e8` (R213). -/
theorem test_v67_add_sp_e8 :
    stepsTo (startWith [0xE8, 0x01] { Regs.reset with sp := 0xFFFF, f := 0xC0 } [])
      { Regs.reset with sp := 0x0000, f := 0x30, pc := 0x0102 } (.cycles 4) [] = true := by decide

/-- V68: `ADD SP,e8` (R213). -/
theorem test_v68_add_sp_e8 :
    stepsTo (startWith [0xE8, 0xFF] { Regs.reset with sp := 0x0001, f := 0x00 } [])
      { Regs.reset with sp := 0x0000, f := 0x30, pc := 0x0102 } (.cycles 4) [] = true := by decide

/-- V70: `LD HL,SP+e8` (R214). -/
theorem test_v70_ld_hl_spince8 :
    stepsTo (startWith [0xF8, 0xFE] { Regs.reset with sp := 0xFFF8, f := 0x00 } [])
      { Regs.reset with sp := 0xFFF8, f := 0x30, h := 0xFF, l := 0xF6, pc := 0x0102 } (.cycles 3) []
      = true := by decide

/-- V72: `RLCA` (R220). -/
theorem test_v72_rlca :
    stepsTo (startWith [0x07] { Regs.reset with a := 0x85, f := 0x00 } [])
      { Regs.reset with a := 0x0B, f := 0x10, pc := 0x0101 } (.cycles 1) [] = true := by decide

/-- V73: `RRCA` (R221). -/
theorem test_v73_rrca :
    stepsTo (startWith [0x0F] { Regs.reset with a := 0x01, f := 0x80 } [])
      { Regs.reset with a := 0x80, f := 0x10, pc := 0x0101 } (.cycles 1) [] = true := by decide

/-- V74: `RLA` (R222). -/
theorem test_v74_rla :
    stepsTo (startWith [0x17] { Regs.reset with a := 0x80, f := 0x00 } [])
      { Regs.reset with a := 0x00, f := 0x10, pc := 0x0101 } (.cycles 1) [] = true := by decide

/-- V75: `RLA` (R222). -/
theorem test_v75_rla :
    stepsTo (startWith [0x17] { Regs.reset with a := 0x55, f := 0x10 } [])
      { Regs.reset with a := 0xAB, f := 0x00, pc := 0x0101 } (.cycles 1) [] = true := by decide

/-- V76: `RRA` (R223). -/
theorem test_v76_rra :
    stepsTo (startWith [0x1F] { Regs.reset with a := 0x01, f := 0x10 } [])
      { Regs.reset with a := 0x80, f := 0x10, pc := 0x0101 } (.cycles 1) [] = true := by decide

/-- V77: `RLC B` (R224). -/
theorem test_v77_rlc_b :
    stepsTo (startWith [0xCB, 0x00] { Regs.reset with b := 0x80, f := 0x00 } [])
      { Regs.reset with b := 0x01, f := 0x10, pc := 0x0102 } (.cycles 2) [] = true := by decide

/-- V78: `RRC (HL)` (R227). -/
theorem test_v78_rrc_hl :
    stepsTo (startWith [0xCB, 0x0E] { Regs.reset with f := 0x10, h := 0xC0, l := 0x00 } [(0xC000, 0x00)])
      { Regs.reset with f := 0x80, h := 0xC0, l := 0x00, pc := 0x0102 } (.cycles 4) [(0xC000, 0x00)]
      = true := by decide

/-- V79: `RL C` (R228). -/
theorem test_v79_rl_c :
    stepsTo (startWith [0xCB, 0x11] { Regs.reset with c := 0x80, f := 0x00 } [])
      { Regs.reset with c := 0x00, f := 0x90, pc := 0x0102 } (.cycles 2) [] = true := by decide

/-- V80: `RR D` (R230). -/
theorem test_v80_rr_d :
    stepsTo (startWith [0xCB, 0x1A] { Regs.reset with d := 0x01, f := 0x10 } [])
      { Regs.reset with d := 0x80, f := 0x10, pc := 0x0102 } (.cycles 2) [] = true := by decide

/-- V81: `SLA E` (R232). -/
theorem test_v81_sla_e :
    stepsTo (startWith [0xCB, 0x23] { Regs.reset with e := 0xFF, f := 0x00 } [])
      { Regs.reset with e := 0xFE, f := 0x10, pc := 0x0102 } (.cycles 2) [] = true := by decide

/-- V82: `SRA H` (R234). -/
theorem test_v82_sra_h :
    stepsTo (startWith [0xCB, 0x2C] { Regs.reset with h := 0x81, f := 0x00 } [])
      { Regs.reset with h := 0xC0, f := 0x10, pc := 0x0102 } (.cycles 2) [] = true := by decide

/-- V83: `SWAP A` (R236). -/
theorem test_v83_swap_a :
    stepsTo (startWith [0xCB, 0x37] { Regs.reset with a := 0xF0, f := 0xF0 } [])
      { Regs.reset with a := 0x0F, f := 0x00, pc := 0x0102 } (.cycles 2) [] = true := by decide

/-- V85: `SRL (HL)` (R239). -/
theorem test_v85_srl_hl :
    stepsTo (startWith [0xCB, 0x3E] { Regs.reset with f := 0x00, h := 0xC0, l := 0x00 } [(0xC000, 0x01)])
      { Regs.reset with f := 0x90, h := 0xC0, l := 0x00, pc := 0x0102 } (.cycles 4) [(0xC000, 0x00)]
      = true := by decide

/-- V86: `BIT 7,H` (R240). -/
theorem test_v86_bit_7_h :
    stepsTo (startWith [0xCB, 0x7C] { Regs.reset with h := 0x80, f := 0xD0 } [])
      { Regs.reset with h := 0x80, f := 0x30, pc := 0x0102 } (.cycles 2) [] = true := by decide

/-- V87: `BIT 7,H` (R240). -/
theorem test_v87_bit_7_h :
    stepsTo (startWith [0xCB, 0x7C] { Regs.reset with h := 0x7F, f := 0x50 } [])
      { Regs.reset with h := 0x7F, f := 0xB0, pc := 0x0102 } (.cycles 2) [] = true := by decide

/-- V88: `BIT 0,(HL)` (R241). -/
theorem test_v88_bit_0_hl :
    stepsTo (startWith [0xCB, 0x46] { Regs.reset with f := 0x00, h := 0xC0, l := 0x00 } [(0xC000, 0xFE)])
      { Regs.reset with f := 0xA0, h := 0xC0, l := 0x00, pc := 0x0102 } (.cycles 3) [] = true := by decide

/-- V89: `RES 3,A` (R242). -/
theorem test_v89_res_3_a :
    stepsTo (startWith [0xCB, 0x9F] { Regs.reset with a := 0xFF } [])
      { Regs.reset with a := 0xF7, f := 0xB0, pc := 0x0102 } (.cycles 2) [] = true := by decide

/-- V90: `RES 0,(HL)` (R243). -/
theorem test_v90_res_0_hl :
    stepsTo (startWith [0xCB, 0x86] { Regs.reset with h := 0xC0, l := 0x00 } [(0xC000, 0xFF)])
      { Regs.reset with h := 0xC0, l := 0x00, f := 0xB0, pc := 0x0102 } (.cycles 4) [(0xC000, 0xFE)]
      = true := by decide

/-- V91: `SET 7,(HL)` (R245). -/
theorem test_v91_set_7_hl :
    stepsTo (startWith [0xCB, 0xFE] { Regs.reset with h := 0xC0, l := 0x00 } [(0xC000, 0x00)])
      { Regs.reset with h := 0xC0, l := 0x00, f := 0xB0, pc := 0x0102 } (.cycles 4) [(0xC000, 0x80)]
      = true := by decide

/-- V92: `SET 0,B` (R244). -/
theorem test_v92_set_0_b :
    stepsTo (startWith [0xCB, 0xC0] { Regs.reset with b := 0x00 } [])
      { Regs.reset with b := 0x01, f := 0xB0, pc := 0x0102 } (.cycles 2) [] = true := by decide

/-- V93: `JP a16` (R251). -/
theorem test_v93_jp_a16 :
    stepsTo (startWith [0xC3, 0x50, 0x01] Regs.reset []) { Regs.reset with f := 0xB0, pc := 0x0150 } (.cycles 4) []
      = true := by decide

/-- V94: `JP NZ,a16` (R252). -/
theorem test_v94_jp_nz_a16 :
    stepsTo (startWith [0xC2, 0x50, 0x01] { Regs.reset with f := 0xB0 } [])
      { Regs.reset with f := 0xB0, pc := 0x0103 } (.cycles 3) [] = true := by decide

/-- V95: `JP NZ,a16` (R252). -/
theorem test_v95_jp_nz_a16 :
    stepsTo (startWith [0xC2, 0x50, 0x01] { Regs.reset with f := 0x00 } [])
      { Regs.reset with f := 0x00, pc := 0x0150 } (.cycles 4) [] = true := by decide

/-- V97: `JP HL` (R253). -/
theorem test_v97_jp_hl :
    stepsTo (startWith [0xE9] { Regs.reset with h := 0xC0, l := 0x00 } [])
      { Regs.reset with h := 0xC0, l := 0x00, f := 0xB0, pc := 0xC000 } (.cycles 1) [] = true := by decide

/-- V98: `JR e8` (R254). -/
theorem test_v98_jr_e8 :
    stepsTo (startWith [0x18, 0xFE] Regs.reset []) { Regs.reset with f := 0xB0, pc := 0x0100 } (.cycles 3) []
      = true := by decide

/-- V100: `JR NZ,e8` (R255). -/
theorem test_v100_jr_nz_e8 :
    stepsTo (startWith [0x20, 0x05] { Regs.reset with f := 0x00 } []) { Regs.reset with f := 0x00, pc := 0x0107 }
      (.cycles 3) [] = true := by decide

/-- V101: `JR NZ,e8` (R255). -/
theorem test_v101_jr_nz_e8 :
    stepsTo (startWith [0x20, 0x05] { Regs.reset with f := 0x80 } []) { Regs.reset with f := 0x80, pc := 0x0102 }
      (.cycles 2) [] = true := by decide

/-- V102: `JR C,e8` (R255). -/
theorem test_v102_jr_c_e8 :
    stepsTo (startWith [0x38, 0x80] { Regs.reset with f := 0x10 } []) { Regs.reset with f := 0x10, pc := 0x0082 }
      (.cycles 3) [] = true := by decide

/-- V104: `CALL a16` (R256). -/
theorem test_v104_call_a16 :
    stepsTo (startWith [0xCD, 0x34, 0x12] { Regs.reset with sp := 0xFFFE } [])
      { Regs.reset with sp := 0xFFFC, f := 0xB0, pc := 0x1234 } (.cycles 6) [(0xFFFD, 0x01), (0xFFFC, 0x03)]
      = true := by decide

/-- V105: `CALL NC,a16` (R257). -/
theorem test_v105_call_nc_a16 :
    stepsTo (startWith [0xD4, 0x34, 0x12] { Regs.reset with f := 0xB0 } [])
      { Regs.reset with f := 0xB0, pc := 0x0103 } (.cycles 3) [] = true := by decide

/-- V107: `RET` (R258). -/
theorem test_v107_ret :
    stepsTo (startWith [0xC9] { Regs.reset with sp := 0xC000 } [(0xC000, 0x50), (0xC001, 0x01)])
      { Regs.reset with sp := 0xC002, f := 0xB0, pc := 0x0150 } (.cycles 4) [] = true := by decide

/-- V108: `RET Z` (R259). -/
theorem test_v108_ret_z :
    stepsTo (startWith [0xC8] { Regs.reset with f := 0x80, sp := 0xC000 } [(0xC000, 0x50), (0xC001, 0x01)])
      { Regs.reset with f := 0x80, sp := 0xC002, pc := 0x0150 } (.cycles 5) [] = true := by decide

/-- V109: `RET NZ` (R259). -/
theorem test_v109_ret_nz :
    stepsTo (startWith [0xC0] { Regs.reset with f := 0x80, sp := 0xC000 } [])
      { Regs.reset with f := 0x80, sp := 0xC000, pc := 0x0101 } (.cycles 2) [] = true := by decide

/-- V110: `RETI` (R260). -/
theorem test_v110_reti :
    stepsTo (startWith [0xD9] { Regs.reset with sp := 0xC000, ime := false } [(0xC000, 0x00), (0xC001, 0x02)])
      { Regs.reset with sp := 0xC002, ime := true, f := 0xB0, pc := 0x0200 } (.cycles 4) [] = true := by decide

/-- V111: `RST 38h` (R261). -/
theorem test_v111_rst_38h :
    stepsTo (startWith [0xFF] { Regs.reset with sp := 0xFFFE } [])
      { Regs.reset with sp := 0xFFFC, f := 0xB0, pc := 0x0038 } (.cycles 4) [(0xFFFD, 0x01), (0xFFFC, 0x01)]
      = true := by decide

/-- V112: `RST 00h` (R261). -/
theorem test_v112_rst_00h :
    stepsTo (startWith [0xC7] { Regs.reset with sp := 0xC000 } [])
      { Regs.reset with sp := 0xBFFE, f := 0xB0, pc := 0x0000 } (.cycles 4) [] = true := by decide

/-- V113: `NOP` (R270). -/
theorem test_v113_nop :
    stepsTo (startWith [0x00] Regs.reset []) { Regs.reset with f := 0xB0, pc := 0x0101 } (.cycles 1) []
      = true := by decide

/-- V114: `HALT` (R271). -/
theorem test_v114_halt :
    stepsTo (startWith [0x76] Regs.reset []) { Regs.reset with f := 0xB0, pc := 0x0101, halted := true } .halted []
      = true := by decide

/-- V115: `STOP` (R272). -/
theorem test_v115_stop :
    stepsTo (startWith [0x10, 0x00] Regs.reset []) { Regs.reset with f := 0xB0, pc := 0x0102, halted := true }
      .halted [] = true := by decide

/-- V116: `DI` (R273). -/
theorem test_v116_di :
    stepsTo (startWith [0xF3] { Regs.reset with ime := true } [])
      { Regs.reset with ime := false, f := 0xB0, pc := 0x0101 } (.cycles 1) [] = true := by decide

/-- V117: `EI` (R274). -/
theorem test_v117_ei :
    stepsTo (startWith [0xFB] { Regs.reset with ime := false } [])
      { Regs.reset with ime := true, f := 0xB0, pc := 0x0101 } (.cycles 1) [] = true := by decide

/-- V118: `(unimplemented) 0xD3` (R281). -/
theorem test_v118_unimplemented_0xd3 :
    stepsTo (startWith [0xD3] Regs.reset []) { Regs.reset with f := 0xB0, pc := 0x0101 } .unimplementedOpcode []
      = true := by decide

/-- V119: `(unimplemented) 0xFD` (R281). -/
theorem test_v119_unimplemented_0xfd :
    stepsTo (startWith [0xFD, 0x00, 0x00] Regs.reset []) { Regs.reset with f := 0xB0, pc := 0x0101 }
      .unimplementedOpcode [] = true := by decide

/-! ### Banking, memory and I/O (95_test_vectors.md section 3) -/

/-- M7, M8, M9, M10: the ROM bank register. -/
theorem test_m7_rom_bank_zero_coerced : (State.reset.store 0x2000 0x00).bus.romBank = 1 := by decide

theorem test_m8_low_five_bits_coerced : (State.reset.store 0x2000 0x20).bus.romBank = 1 := by decide

theorem test_m10_bits_7_5_ignored : (State.reset.store 0x3FFF 0xE2).bus.romBank = 2 := by decide

/-- M12: the upper bits in banking mode 0. -/
theorem test_m12_upper_bits : ((State.reset.store 0x2000 0x01).store 0x4000 0x01).bus.romBank = 0x21 := by decide

/-- M13: the RAM bank in banking mode 1. -/
theorem test_m13_ram_bank :
    let t := (State.reset.store 0x6000 0x01).store 0x4000 0x02
    t.bus.ramBank = 2 ∧ t.bus.bankingMode = true ∧ t.bus.romBank = 1 := by decide

/-- M4, M5: only the low nibble counts. -/
theorem test_m4_ram_enable : (State.reset.store 0x0000 0x1A).bus.ramEnabled = true := by decide

theorem test_m5_ram_disable : ((State.reset.store 0x0000 0x0A).store 0x1FFF 0x0B).bus.ramEnabled = false := by decide

/-- M11, M18: the effective bank. -/
theorem test_m11_effective_bank :
    ({ State.reset.bus with romBankCount := 4, romBank := 4 } : AddressSpace).effRomBank = 1 := by decide

theorem test_m18_effective_bank :
    ({ State.reset.bus with romBankCount := 2, romBank := 3 } : AddressSpace).effRomBank = 1 := by decide

/-- M14, M17: external RAM enabled and present, and not present. -/
theorem test_m14_eram_kept :
    let s : State := { State.reset with bus.ramEnabled := true, bus.ramBankCount := 4, bus.ramBank := 2 }
    (s.store 0xA000 0x5C).peek 0xA000 = 0x5C ∧ (s.store 0xA000 0x5C).bus.eram = [(0x4000, 0x5C)] := by decide

theorem test_m17_no_eram :
    ({ State.reset with bus.ramEnabled := true } : State).store 0xA000 0x01 =
      { State.reset with bus.ramEnabled := true } := by decide

/-- M19: a cartridge offset beyond the image. -/
theorem test_m19_beyond_image :
    ({ State.reset with bus.romBankCount := 8, bus.romBank := 5 } : State).peek 0x4000 = 0xFF := by decide

/-- M21: the last byte of the mirror. -/
theorem test_m21_mirror : (State.reset.store 0xFDFF 0x66).peek 0xDDFF = 0x66 := by decide

/-- M22: the unmapped hole. -/
theorem test_m22_unmapped :
    (State.reset.store 0xFEA0 0x01).peek 0xFEA0 = 0xFF ∧ State.reset.peek 0xFEFF = 0xFF := by decide

/-- M23: the I/O addresses of peripherals outside the block. -/
theorem test_m23_external_io :
    isExternalIo 0xFF00 = true ∧ isExternalIo 0xFF46 = true ∧ isExternalIo 0xFF4A = true ∧
      isExternalIo 0xFF45 = false ∧ isExternalIo 0xFF7F = true ∧ isExternalIo 0xFF80 = false := by decide

/-- M26: STAT takes bits 6:3. -/
theorem test_m26_stat : (State.reset.store 0xFF41 0xFF).display.stat = 0xFE := by decide

/-- M27: LY is not written. -/
theorem test_m27_ly : State.reset.store 0xFF44 0x05 = State.reset := by decide

/-- The region table at its boundaries (20_memory.md R56). -/
theorem test_regions :
    [0x3FFF, 0x4000, 0x7FFF, 0x8000, 0x9FFF, 0xA000, 0xBFFF, 0xC000, 0xDFFF, 0xE000, 0xFDFF, 0xFE00, 0xFE9F, 0xFEA0,
      0xFEFF, 0xFF00, 0xFF7F, 0xFF80, 0xFFFE, 0xFFFF].map regionOf =
    [.romFixed, .romBanked, .romBanked, .vram, .vram, .eram, .eram, .wram, .wram, .echo, .echo, .oam, .oam, .unmapped,
      .unmapped, .io, .io, .hram, .hram, .ie] := by decide

/-! ### The graphics timer (95_test_vectors.md section 4) -/

/-- What the vectors of section 4 show of a state. -/
def timer (s : State) : Mode × Nat × Byte × Byte × Nat :=
  (s.display.mode, s.display.modeClock, s.display.ly, s.display.stat, s.display.frameCount)

theorem test_g3_oam_end : timer (advance 80 State.reset) = (.pixelTransfer, 0, 0, 0x87, 0) := by decide

/-- G8: line 143's horizontal blank ends. -/
theorem test_g8_vblank_begins :
    timer (advance 204 { State.reset with display.mode := .hblank, display.ly := 143 }) =
      (.vblank, 0, 144, 0x81, 0) := by decide

/-- G11: the last line of vertical blank ends. -/
theorem test_g11_frame_ends :
    timer (advance 456 { State.reset with display.mode := .vblank, display.ly := 153 }) =
      (.oamScan, 0, 0, 0x86, 1) := by decide

/-- G13: the coincidence bit. -/
theorem test_g13_coincidence :
    timer (advance 204 { State.reset with display.mode := .hblank, display.ly := 4, display.lyc := 5 }) =
      (.oamScan, 0, 5, 0x86, 0) := by decide

/-- G21: tile 0's high bit of its low plane, through BGP 0xE4. -/
theorem test_g21_pixel :
    let s : State := { State.reset with bus.vram := [(0, 0x80)], display.bgp := 0xE4 }
    pixelShade s 0 0 = 1 ∧ pixelShade s 0 8 = 1 ∧ pixelShade s 0 7 = 0 := by decide

/-- G22, G23: scrolled by one. -/
theorem test_g22_pixel_scrolled :
    let s : State := { State.reset with bus.vram := [(0, 0x80)], display.bgp := 0xE4 }
    pixelShade { s with display.scx := 1 } 0 7 = 1 ∧ pixelShade { s with display.scy := 1 } 0 0 = 0 := by decide

/-- G24: a map entry. -/
theorem test_g24_pixel_map :
    let s : State := { State.reset with bus.vram := [(0x10, 0xFF), (0x11, 0xFF), (0x1800, 0x01)] }
    pixelShade s 0 7 = 3 ∧ pixelShade s 0 8 = 0 := by decide

/-! ### Construction (95_test_vectors.md section 5) -/

/-- An image of 0x014A bytes with these header codes. -/
def image (rom ram : Byte) : List Byte := List.replicate 0x0148 0 ++ [rom, ram]

def zeros : MemInit where
  vram := fun _ => 0
  wram := fun _ => 0
  hram := fun _ => 0
  oam := fun _ => 0
  eram := fun _ => 0

/-- How a construction ends: its bank counts, or its failure. -/
def built (load : HostLoad) : ConstructError ⊕ Nat × Nat :=
  match construct load zeros with
  | .ok s => .inr (s.bus.romBankCount, s.bus.ramBankCount)
  | .error e => .inl e

theorem test_x5_too_short : built (.image (List.replicate 0x0149 0)) = .inl .cartTooShort := by decide +kernel

theorem test_x6_smallest_image : built (.image (image 0x00 0x00)) = .inr (2, 0) := by decide +kernel

theorem test_x7_rom_code : built (.image (image 0x06 0x00)) = .inl .headerCodeOutOfRange := by decide +kernel

theorem test_x8_ram_code : built (.image (image 0x00 0xFF)) = .inl .headerCodeOutOfRange := by decide +kernel

theorem test_x9_largest_codes : built (.image (image 0x05 0x05)) = .inr (128, 8) := by decide +kernel

/-! ### The interface the host asks for -/

/-- The word of `LD BC,d16` with no operand bits, and of `RLC B` (log entry 6). -/
theorem test_decodeTableWord : decodeTableWord 8 0x01 = some (.ldBcD16 0) ∧ decodeTableWord 16 0xCB00 = some .rlcB :=
  ⟨rfl, rfl⟩

/-- `step` runs the placed instruction as the first one after reset: `INC B`, then an advance by 1. -/
theorem test_withFetchWord :
    ∃ t, step (State.reset.withFetchWord 8 0x04) = .next t ∧ t.regs.b = 1 ∧ t.display.modeClock = 1 :=
  ⟨_, rfl, rfl, rfl⟩

/-! ### Witnesses: the hypotheses of each statement are met -/

theorem test_witness_constructed : ∃ s, construct (.image (image 0x00 0x00)) zeros = .ok s := by
  have h := test_x6_smallest_image
  unfold built at h
  cases hc : construct (.image (image 0x00 0x00)) zeros with
  | error e =>
    rw [hc] at h
    cases h
  | ok s => exact ⟨s, rfl⟩

/-- `HeaderDecoding`, each clause at its boundary. -/
theorem test_witness_headerDecoding :
    (List.replicate 0x0149 (0 : Byte)).length < 0x014A ∧ 0x014A ≤ (image 0x05 0x05).length ∧
      ((image 0x05 0x05).getD 0x0148 0).toNat ≤ 5 ∧ ((image 0x05 0x05).getD 0x0149 0).toNat ≤ 5 ∧
      5 < ((image 0x06 0x00).getD 0x0148 0).toNat ∧ 5 < ((image 0x00 0x06).getD 0x0149 0).toNat := by decide +kernel

theorem test_witness_decodeEncode : (Instr.ldBcD16 0x1234).WellFormed = true := rfl

/-- `DecodeReadsEncoding`: both an instruction read and a list too short for it. -/
theorem test_witness_decodeReadsEncoding :
    decode [0x01, 0x34, 0x12] = .ok (.ldBcD16 0x1234, []) ∧ decode [0x01, 0x34] = .error .truncated ∧
      [(0x34 : Byte)].length + 1 < instrLength 0x01 := ⟨rfl, rfl, by decide⟩

theorem test_witness_unimplementedOpcodes :
    let s := startWith [0xD3] Regs.reset []
    s.regs.halted = false ∧ s.peek s.regs.pc ∈ unimplementedOpcodes := by decide

theorem test_witness_prefixSelects :
    let s := startWith [0xCB, 0x00] Regs.reset []
    s.regs.halted = false ∧ s.peek s.regs.pc = 0xCB := by decide

/-- `StepRunsDecoded`: an instruction of three bytes at PC, an instruction that completes, one that ends the run. -/
theorem test_witness_stepRunsDecoded :
    let s := startWith [0x31, 0xFE, 0xFF] Regs.reset []
    let i := Instr.ldSpD16 0xFFFE
    i.WellFormed = true ∧ s.regs.halted = false ∧ s.fetched (encode i).length = encode i := by decide

theorem test_witness_stepRunsDecoded_outcomes :
    ({ State.reset with outcome := some (.cycles 4) } : State).outcome = some (.cycles 4) ∧
      ({ State.reset with outcome := some .halted } : State).runEnded ∧
      ({ State.reset with outcome := some .unimplementedOpcode } : State).runEnded := ⟨rfl, .inl rfl, .inr rfl⟩

/-- A state whose next step halts the engine, and the halted state. -/
def halting : State := startWith [0x76] Regs.reset []

def haltedState : State := { State.reset with regs.halted := true }

theorem test_witness_haltedStep : haltedState.regs.halted = true := rfl

/-- `OneOutcome`, each of the three. -/
theorem test_witness_oneOutcome :
    stepsTo State.reset { Regs.reset with pc := 0x0101 } (.cycles 1) [] = true ∧
      stepsTo halting { Regs.reset with pc := 0x0101, halted := true } .halted [] = true ∧
      stepsTo (startWith [0xDD] Regs.reset []) { Regs.reset with pc := 0x0101 } .unimplementedOpcode [] = true := by
  decide +kernel

/-- `RunEndsByOutcome`: a run that halts, one that meets an unimplemented opcode, one out of fuel. -/
theorem test_witness_runEnds :
    (∃ t, (run 1 haltedState).1 = .halted t) ∧
      (∃ t, (run 1 (startWith [0xDD] Regs.reset [])).1 = .unimplementedOpcode t) ∧
      (∃ t, (run 1 State.reset).1 = .outOfFuel t) ∧ (∀ t, (run 1 haltedState).1 ≠ .outOfFuel t) :=
  ⟨⟨_, rfl⟩, ⟨_, rfl⟩, ⟨_, rfl⟩, nofun⟩

theorem test_witness_stepKeepsInvariant : State.reset.Inv = true ∧ ∃ t, step State.reset = .next t :=
  ⟨by decide, _, rfl⟩

/-- `ImeReadByNothing`, `FlagLowNibble`, `InstrMemoryFrame`, `EngineKeepsTimer`: instructions that answer a next state. -/
theorem test_witness_exec_next :
    (∃ t, exec .di State.reset = .next t) ∧ (∃ t, exec .reti State.reset = .next t) ∧
      (∃ t, exec .popAf State.reset = .next t) ∧ (∃ t, exec .nop State.reset = .next t) ∧
      ∃ t, engineStep State.reset = .next t := ⟨⟨_, rfl⟩, ⟨_, rfl⟩, ⟨_, rfl⟩, ⟨_, rfl⟩, _, rfl⟩

theorem test_witness_flagLowNibble :
    Instr.popAf = .popAf ∧ Instr.nop ≠ .popAf ∧ State.reset.regs.f &&& 0x0F = 0 := ⟨rfl, nofun, rfl⟩

/-- `InstrMemoryFrame`: a byte a store does not touch, one that it does, an instruction that stores nothing. -/
theorem test_witness_instrMemoryFrame :
    isExternalIo 0xC001 = false ∧ storeTouches 0xC000 0xC001 = false ∧ storeTouches 0xC000 0xE000 = true ∧
      storedAddrs (.ldMemA16A 0xC000) State.reset = [0xC000] ∧ storedAddrs .nop State.reset = [] := by decide

/-- `BankProtocol`, each clause at both ends of its range. -/
theorem test_witness_bankProtocol :
    (0x1FFF#16).toNat < 0x2000 ∧ (0x2000 ≤ (0x2000#16).toNat ∧ (0x3FFF#16).toNat < 0x4000) ∧
      (0x4000 ≤ (0x4000#16).toNat ∧ (0x5FFF#16).toNat < 0x6000) ∧ State.reset.bus.bankingMode = false ∧
      (State.reset.store 0x7FFF 0x01).bus.bankingMode = true ∧
      (0x6000 ≤ (0x6000#16).toNat ∧ (0x7FFF#16).toNat < 0x8000) := by decide

/-- `EffectiveBanks`: a count of each table, external RAM closed and open, the ends of its window. -/
theorem test_witness_effectiveBanks :
    State.reset.bus.romBankCount ∈ [2, 4, 8, 32, 64, 128] ∧
      ¬ (State.reset.bus.ramEnabled = true ∧ 0 < State.reset.bus.ramBankCount) ∧
      (let b := { State.reset.bus with ramEnabled := true, ramBankCount := 16 }
       b.ramEnabled = true ∧ b.ramBankCount ∈ [1, 4, 8, 16]) ∧
      0xA000 ≤ (0xA000#16).toNat ∧ (0xBFFF#16).toNat < 0xC000 := by decide

/-- `IoPorts`: the addresses next to the display registers. -/
theorem test_witness_ioPorts :
    ([0xFF00#16, 0xFF3F#16, 0xFF46#16, 0xFF4A#16, 0xFF7F#16].all fun a =>
      decide (0xFF00 ≤ a.toNat ∧ a.toNat < 0xFF80 ∧ (a.toNat < 0xFF40 ∨ a.toNat = 0xFF46 ∨ 0xFF49 < a.toNat))) =
    true := by decide

/-- `StorageReadsBack`, each clause at the ends of its region. -/
theorem test_witness_storageReadsBack :
    ([0x8000#16, 0x9FFF#16, 0xC000#16, 0xFDFF#16, 0xFE00#16, 0xFE9F#16, 0xFF80#16, 0xFFFE#16, 0xFFFF#16].all fun a =>
        plainRegion (regionOf a)) = true ∧
      regionOf 0xBFFF = .eram ∧ ({ State.reset.bus with ramEnabled := true, ramBankCount := 1 }).eramReachable = true ∧
      regionOf 0xE000 = .echo ∧ regionOf 0xFEA0 = .unmapped ∧ regionOf 0xFEFF = .unmapped := by decide

/-- `WordsAndStack`: a word across two regions, and the reset stack. -/
theorem test_witness_wordsAndStack :
    plainRegion (regionOf 0xDFFF) = true ∧ plainRegion (regionOf (0xDFFF + 1)) = true ∧
      plainRegion (regionOf (State.reset.regs.sp - 1)) = true ∧
      plainRegion (regionOf (State.reset.regs.sp - 2)) = true := by decide

/-- The conditions, each held and not (`Jumps`, `Calls`, `Returns`). -/
theorem test_witness_conditions :
    let z : State := State.reset
    let n : State := { State.reset with regs.f := 0x00 }
    (CondHolds z .z ∧ CondHolds z .c ∧ CondHolds n .nz ∧ CondHolds n .nc) ∧
      ¬ CondHolds z .nz ∧ ¬ CondHolds z .nc ∧ ¬ CondHolds n .z ∧ ¬ CondHolds n .c := by
  unfold CondHolds
  decide

/-- `LoadWord`, `PairArithmetic` (a pair other than SP), `PushPop` (other than AF), the operation lists. -/
theorem test_witness_operands :
    Pair.bc ≠ .sp ∧ StackPair.bc ≠ .af ∧ RotOp.rlc ∈ [RotOp.rlc, .rrc, .rl, .rr] ∧
      RotOp.srl ∈ [RotOp.sla, .sra, .swap, .srl] := by decide

/-- `DecimalAdjustCorrects`: 99 and 99. -/
theorem test_witness_decimalAdjust : 99 < 100 ∧ ({ State.reset with regs.a := 0x99 } : State).regs.a = bcd 99 := by
  decide

/-- `PaletteAndShades`: the last colour index, and two cells of different shades. -/
theorem test_witness_paletteAndShades :
    let s : State := { State.reset with display.fb := [(fbKey 0 1, 3)] }
    3 < 4 ∧ Memory.get s.display.fb (fbKey 0 1) = 3 ∧ Memory.get s.display.fb (fbKey 0 0) = 0 := by decide

/-- `paletteShade` from the bits of BGP that 10_state.md R46 names: 0xE4 is 11 10 01 00. -/
theorem test_paletteShade :
    paletteShade 0xE4 0 = 0 ∧ paletteShade 0xE4 1 = 1 ∧ paletteShade 0xE4 2 = 2 ∧ paletteShade 0xE4 3 = 3 ∧
      paletteShade 0xFC 0 = 0 ∧ paletteShade 0xFC 3 = 3 := by decide

/-- `AdvanceLoop`, each clause at its threshold. -/
theorem test_witness_advanceLoop :
    State.reset.display.modeClock + 79 < threshold State.reset.display.mode ∧
      State.reset.display.mode = .oamScan ∧ 80 ≤ State.reset.display.modeClock + 80 ∧
      (let s := advance 80 State.reset
       s.display.mode = .pixelTransfer ∧ 172 ≤ s.display.modeClock + 172) ∧
      (let s : State := { State.reset with display.mode := .hblank }
       s.display.mode = .hblank ∧ 204 ≤ s.display.modeClock + 204) ∧
      (let s : State := { State.reset with display.mode := .vblank, display.ly := 153 }
       s.display.mode = .vblank ∧ s.display.ly = 153 ∧ 456 ≤ s.display.modeClock + 456) ∧
      (let s : State := { State.reset with display.mode := .vblank, display.ly := 152 }
       s.display.mode = .vblank ∧ s.display.ly ≠ 153) := by decide

/-- `RasterizedLine`: the last visible line, the whole of pixel transfer and the last unit before horizontal blank
ends. -/
theorem test_witness_rasterizedLine :
    let s : State := { State.reset with display.mode := .pixelTransfer, display.ly := 143 }
    s.display.mode = .pixelTransfer ∧ s.display.ly.toNat < 144 ∧ 172 ≤ s.display.modeClock + 172 ∧
      s.display.modeClock + 375 < 172 + 204 := by decide

/-- `VisibleLine` and `WholeFrame`: the reset state. -/
theorem test_witness_visibleLine :
    State.reset.display.mode = .oamScan ∧ State.reset.display.ly = 0 ∧ State.reset.display.ly.toNat < 144 ∧
      State.reset.display.modeClock < 80 := by decide


end Sys2Proof.Tests
end

section
/-! The engine step ends in one of three outcomes (00_scope.md R16). The decoder names an unimplemented opcode only at the
11 values of R124, each one byte long, and everything else follows from what `exec` answers. -/

namespace Sys2Proof.Machine

/-! ### Which opcode bytes decode to an unimplemented opcode (30_encoding.md R124) -/

/-- The instruction is one of the 11 opcodes with no table entry. -/
def isUnimplemented : Instr → Bool
  | .unimplementedD3 | .unimplementedDB | .unimplementedDD | .unimplementedE3 | .unimplementedE4
  | .unimplementedEB | .unimplementedEC | .unimplementedED | .unimplementedF4 | .unimplementedFC
  | .unimplementedFD => true
  | _ => false

theorem isUnimplemented_iff (i : Instr) : isUnimplemented i = true ↔ ∃ u, i = .unimplemented u := by
  constructor
  · intro h
    unfold isUnimplemented at h
    split at h
    case h_1 => exact ⟨.d3, rfl⟩
    case h_2 => exact ⟨.db, rfl⟩
    case h_3 => exact ⟨.dd, rfl⟩
    case h_4 => exact ⟨.e3, rfl⟩
    case h_5 => exact ⟨.e4, rfl⟩
    case h_6 => exact ⟨.eb, rfl⟩
    case h_7 => exact ⟨.ec, rfl⟩
    case h_8 => exact ⟨.ed, rfl⟩
    case h_9 => exact ⟨.f4, rfl⟩
    case h_10 => exact ⟨.fc, rfl⟩
    case h_11 => exact ⟨.fd, rfl⟩
    case h_12 => cases h
  · rintro ⟨u, rfl⟩
    cases u <;> rfl

/-- No prefixed row is one: each of them completes, and an unimplemented opcode does not. -/
theorem decodeExtended_ne_unimplemented (op2 : Byte) (u : Unimpl) : decodeExtended op2 ≠ .unimplemented u := by
  intro h
  obtain ⟨n, t, -, he, -⟩ := answers_extended op2 State.reset
  rw [h, exec_unimplemented, raiseUnimplemented_eq, finish_eq] at he
  have ho := congrArg State.outcome (Host.Outcome.next.inj he)
  cases ho

theorem isUnimplemented_decodeBlock0 (y z : Nat) (d1 d2 : Byte) :
    isUnimplemented (decodeBlock0 y z d1 d2) = false := by
  unfold decodeBlock0
  dsimp only
  split
  case h_1 =>
    split
    case h_5 => cases Cond.ofField (y - 4) <;> rfl
    all_goals rfl
  case h_2 => cases Pair.ofField (y / 2) <;> split <;> rfl
  case h_3 => split <;> rfl
  case h_4 => cases Pair.ofField (y / 2) <;> split <;> rfl
  case h_5 => rcases Reg8.ofField y with _ | (_ | _) <;> rfl
  case h_6 => rcases Reg8.ofField y with _ | (_ | _) <;> rfl
  case h_7 => rcases Reg8.ofField y with _ | (_ | _) <;> rfl
  case h_8 => split <;> rfl

theorem isUnimplemented_decodeBlock1 (y z : Nat) : isUnimplemented (decodeBlock1 y z) = false := by
  unfold decodeBlock1
  split
  case h_1 dst r _ _ => cases dst <;> cases r <;> rfl
  case h_2 dst _ _ => cases dst <;> rfl
  case h_3 r _ _ => cases r <;> rfl
  case h_4 => rfl

theorem isUnimplemented_decodeBlock2 (y z : Nat) : isUnimplemented (decodeBlock2 y z) = false := by
  unfold decodeBlock2
  split
  case h_1 r _ => cases AluOp.ofField y <;> cases r <;> rfl
  case h_2 => cases AluOp.ofField y <;> rfl

/-- The two 3-bit fields, `y` and `z`, of the 11 opcode values; all of them lie in block 0xC0 to 0xFF. -/
def unimplementedFields : List (Nat × Nat) :=
  [(2, 3), (3, 3), (3, 5), (4, 3), (4, 4), (5, 3), (5, 4), (5, 5), (6, 4), (7, 4), (7, 5)]

/-- In block 0xC0 to 0xFF the two fields give the byte back. -/
theorem mem_unimplementedOpcodes_of_fields {op : Byte} (h0 : op.toNat / 64 ≠ 0) (h1 : op.toNat / 64 ≠ 1)
    (h2 : op.toNat / 64 ≠ 2) (h : (op.toNat / 8 % 8, op.toNat % 8) ∈ unimplementedFields) :
    op ∈ unimplementedOpcodes := by
  revert op
  decide

theorem mem_unimplementedFields_of_decodeBlock3 (y z : Nat) (d1 d2 : Byte) :
    isUnimplemented (decodeBlock3 y z d1 d2) = true → (y, z) ∈ unimplementedFields := by
  unfold decodeBlock3
  dsimp only
  split
  case h_1 =>
    split
    case h_5 => cases Cond.ofField y <;> nofun
    all_goals nofun
  case h_2 =>
    split
    case h_5 => cases StackPair.ofField (y / 2) <;> nofun
    all_goals nofun
  case h_3 =>
    split
    case h_5 => cases Cond.ofField y <;> nofun
    all_goals nofun
  case h_4 =>
    split
    case h_2 =>
      intro h
      obtain ⟨u, hu⟩ := (isUnimplemented_iff _).mp h
      exact absurd hu (decodeExtended_ne_unimplemented d1 u)
    case h_3 | h_4 | h_5 | h_6 => decide
    all_goals nofun
  case h_5 =>
    split
    case h_5 => cases Cond.ofField y <;> nofun
    all_goals decide
  case h_6 =>
    split
    case h_1 => nofun
    case h_5 => cases StackPair.ofField (y / 2) <;> nofun
    all_goals decide
  case h_7 => cases AluOp.ofField y <;> nofun
  case h_8 => cases Vec.ofField y <;> nofun

theorem mem_unimplementedOpcodes_of_decodeParts {op d1 d2 : Byte} {u : Unimpl}
    (h : decodeParts op d1 d2 = .unimplemented u) : op ∈ unimplementedOpcodes := by
  have hu : isUnimplemented (decodeParts op d1 d2) = true := (isUnimplemented_iff _).mpr ⟨u, h⟩
  unfold decodeParts at hu
  dsimp only at hu
  split at hu
  case h_1 => rw [isUnimplemented_decodeBlock0] at hu; cases hu
  case h_2 => rw [isUnimplemented_decodeBlock1] at hu; cases hu
  case h_3 => rw [isUnimplemented_decodeBlock2] at hu; cases hu
  case h_4 h0 h1 h2 =>
    exact mem_unimplementedOpcodes_of_fields h0 h1 h2 (mem_unimplementedFields_of_decodeBlock3 _ _ _ _ hu)

theorem instrLength_of_unimplementedOpcodes : ∀ op ∈ unimplementedOpcodes, instrLength op = 1 := by decide

theorem instrLength_pos (op : Byte) : 0 < instrLength op := by
  unfold instrLength
  split
  · decide
  · split <;> decide

/-! ### Fetching (00_scope.md R14) -/

theorem State.afterFetch8_regs (s : State) : s.afterFetch8.regs = { s.regs with pc := s.regs.pc + 1 } := by
  unfold State.afterFetch8
  simp [State.setPc]

theorem State.afterFetch_regs (n : Nat) (s : State) :
    (s.afterFetch n).regs = { s.regs with pc := s.regs.pc + BitVec.ofNat 16 n } := by
  induction n generalizing s with
  | zero => simp [State.afterFetch]
  | succ n ih =>
    have hpc : s.regs.pc + 1 + BitVec.ofNat 16 n = s.regs.pc + BitVec.ofNat 16 (n + 1) := by bv_omega
    calc (s.afterFetch8.afterFetch n).regs
        = { s.afterFetch8.regs with pc := s.afterFetch8.regs.pc + BitVec.ofNat 16 n } := ih _
      _ = { s.regs with pc := s.regs.pc + BitVec.ofNat 16 (n + 1) } := by rw [s.afterFetch8_regs, hpc]

/-- The instruction at PC is read off the byte at PC and two more bytes. -/
theorem State.nextInstr_eq_decodeParts (s : State) : ∃ d1 d2, s.nextInstr = decodeParts (s.peek s.regs.pc) d1 d2 := by
  refine ⟨s.nextBytes.getD 1 0, s.nextBytes.getD 2 0, ?_⟩
  obtain ⟨n, hn⟩ : ∃ n, s.nextLength = n + 1 := Nat.exists_eq_add_one.mpr (instrLength_pos _)
  have hop : s.nextBytes.getD 0 0 = s.peek s.regs.pc := by
    unfold State.nextBytes
    rw [hn]
    rfl
  unfold State.nextInstr
  rw [hop]

/-- An unimplemented opcode is one of the 11 bytes, and one byte long. -/
theorem State.nextInstr_unimplemented {s : State} {u : Unimpl} (h : s.nextInstr = .unimplemented u) :
    s.peek s.regs.pc ∈ unimplementedOpcodes ∧ s.nextLength = 1 := by
  obtain ⟨d1, d2, hd⟩ := s.nextInstr_eq_decodeParts
  have hop := mem_unimplementedOpcodes_of_decodeParts (hd.symm.trans h)
  exact ⟨hop, instrLength_of_unimplementedOpcodes _ hop⟩

/-! ### The engine step -/

theorem engineStep_of_halted {s : State} (h : s.regs.halted = true) :
    engineStep s = .next { s with outcome := some .halted } := if_pos h

theorem engineStep_of_running {s : State} (h : s.regs.halted = false) :
    engineStep s = exec s.nextInstr s.fetchedState := if_neg (by simp [h])

/-- Settles O13: a halted engine answers `Halted`; a running one answers what `exec` answers for the instruction at PC. -/
theorem oneOutcome : Obligations.OneOutcome := by
  unfold Obligations.OneOutcome
  intro s
  cases hs : s.regs.halted with
  | true => exact ⟨_, engineStep_of_halted hs, .inr (.inl ⟨rfl, hs⟩)⟩
  | false =>
    have hregs : s.fetchedState.regs = { s.regs with pc := s.regs.pc + BitVec.ofNat 16 s.nextLength } :=
      s.afterFetch_regs s.nextLength
    have hf : s.fetchedState.regs.halted = false := by rw [hregs]; exact hs
    rcases exec_answers s.nextInstr s.fetchedState with ⟨n, u, hn, he, hu⟩ | ⟨-, he⟩ | ⟨v, hv, he⟩
    · exact ⟨_, (engineStep_of_running hs).trans he, .inl ⟨n, hn, rfl, hu.halted.trans hf⟩⟩
    · exact ⟨_, (engineStep_of_running hs).trans he, .inr (.inl ⟨rfl, rfl⟩)⟩
    · obtain ⟨hop, hlen⟩ := State.nextInstr_unimplemented hv
      have hpc : s.fetchedState.regs.pc = s.regs.pc + 1 := by rw [hregs, hlen]; rfl
      exact ⟨_, (engineStep_of_running hs).trans he, .inr (.inr ⟨rfl, rfl, hf, hop, hpc⟩)⟩

end Sys2Proof.Machine
end

section
/-! The cartridge buffer holds the image and no step writes it (10_state.md R31), nor a bank count (R32). A step reaches the
address space by stores alone, so that what every store keeps, every step keeps. -/

namespace Sys2Proof.Machine

/-! ### What a step does to the address space -/

theorem State.afterFetch8_bus (s : State) : s.afterFetch8.bus = s.bus := s.afterRead_bus s.regs.pc

theorem State.afterFetch8_display (s : State) : s.afterFetch8.display = s.display := s.afterRead_display s.regs.pc

/-- Fetching writes neither the address space nor the display. -/
theorem State.afterFetch_memory (n : Nat) (s : State) :
    (s.afterFetch n).bus = s.bus ∧ (s.afterFetch n).display = s.display := by
  induction n generalizing s with
  | zero => exact ⟨rfl, rfl⟩
  | succ n ih =>
    obtain ⟨hb, hd⟩ := ih s.afterFetch8
    exact ⟨hb.trans s.afterFetch8_bus, hd.trans s.afterFetch8_display⟩

/-- The graphics timer writes nothing in the address space (60_exceptions.md R312). -/
@[simp] theorem afterStep_bus (s : State) : (afterStep s).bus = s.bus := by
  unfold afterStep
  split
  · exact advance_bus _ s
  · rfl

/-- A step is an engine step, then the orchestrator's part (60_exceptions.md R315). -/
theorem step_next {s t : State} (h : step s = .next t) : ∃ u, engineStep s = .next u ∧ t = afterStep u := by
  unfold step at h
  split at h
  · next u hu =>
    cases h
    exact ⟨u, hu, rfl⟩
  · cases h
  · cases h

/-- What depends on the address space and the display alone, and every store keeps, every engine step keeps. -/
theorem engineStep_keeps (P : State → Prop) (hc : ∀ s t : State, t.bus = s.bus → t.display = s.display → P s → P t)
    (hs : ∀ s a v, P s → P (s.store a v)) {s t : State} (h : engineStep s = .next t) (h0 : P s) : P t := by
  cases hh : s.regs.halted with
  | true =>
    rw [engineStep_of_halted hh] at h
    cases h
    exact hc s _ rfl rfl h0
  | false =>
    rw [engineStep_of_running hh] at h
    obtain ⟨hb, hd⟩ := s.afterFetch_memory s.nextLength
    exact exec_keeps P hc hs h (hc s s.fetchedState hb hd h0)

/-- What every store keeps of the address space, every step keeps. -/
theorem step_keeps_bus (P : AddressSpace → Prop) (hs : ∀ (s : State) a v, P s.bus → P (s.store a v).bus)
    {s t : State} (h : step s = .next t) (h0 : P s.bus) : P t.bus := by
  obtain ⟨u, hu, rfl⟩ := step_next h
  rw [afterStep_bus]
  exact engineStep_keeps (fun s => P s.bus) (fun _ _ hb _ hP => by rwa [hb]) hs hu h0

/-! ### The cartridge -/

/-- The two address spaces have the same cartridge: its bytes, their length, and the bank counts read off its header. -/
def SameCartridge (b c : AddressSpace) : Prop :=
  c.cart = b.cart ∧ c.cartLen = b.cartLen ∧ c.romBankCount = b.romBankCount ∧ c.ramBankCount = b.ramBankCount

theorem SameCartridge.refl (b : AddressSpace) : SameCartridge b b := ⟨rfl, rfl, rfl, rfl⟩

theorem SameCartridge.trans {b c d : AddressSpace} (h : SameCartridge b c) (k : SameCartridge c d) :
    SameCartridge b d := by
  obtain ⟨h1, h2, h3, h4⟩ := h
  obtain ⟨k1, k2, k3, k4⟩ := k
  exact ⟨k1.trans h1, k2.trans h2, k3.trans h3, k4.trans h4⟩

/-- The one bank-switch write that chooses between two registers (20_memory.md R71) writes neither the cartridge nor a
bank count. -/
theorem sameCartridge_bankWriteUpper (b : AddressSpace) (v : Byte) : SameCartridge b (b.bankWriteUpper v) := by
  unfold AddressSpace.bankWriteUpper
  split <;> exact .refl b

/-- A store below 0x8000 drives the bank-switch protocol, which writes latches and bank indices only (R69 to R72); a store
elsewhere writes a storage region, a display register or the history. -/
theorem sameCartridge_store (s : State) (a : Word) (v : Byte) : SameCartridge s.bus (s.store a v).bus := by
  unfold State.store
  split
  case h_1 => split <;> exact .refl s.bus
  case h_2 =>
    split
    · exact sameCartridge_bankWriteUpper s.bus v
    · exact .refl s.bus
  case h_4 | h_9 => split <;> exact .refl s.bus
  all_goals exact .refl s.bus

theorem sameCartridge_step {s t : State} (h : step s = .next t) : SameCartridge s.bus t.bus :=
  step_keeps_bus (SameCartridge s.bus) (fun u a v hu => hu.trans (sameCartridge_store u a v)) h (.refl s.bus)

/-! ### Construction -/

/-- A construction that succeeds takes its address space from the image and the initial contents (70_reset_and_hazards.md
R330, R332). -/
theorem construct_image_bus {bytes : List Byte} {init : MemInit} {s : State}
    (h : construct (.image bytes) init = .ok s) :
    ∃ rom ram, s.bus = AddressSpace.construct bytes init rom ram := by
  unfold construct at h
  dsimp only at h
  split at h
  · cases h
  · split at h
    · next rom ram _ _ =>
      cases h
      exact ⟨rom, ram, rfl⟩
    · cases h

/-- The constructed cartridge reads as the image, at every offset inside it. -/
theorem cartByte_construct (image : List Byte) (init : MemInit) (rom ram : Nat) {i : Nat} (hi : i < image.length) :
    (AddressSpace.construct image init rom ram).cartByte i = image.getD i 0 := by
  calc (AddressSpace.construct image init rom ram).cartByte i
      = Memory.get (Memory.ofFn image.length fun i => image.getD i 0) i := if_pos hi
    _ = image.getD i 0 := (Memory.get_ofFn _ _ i).trans (if_pos hi)

/-- Settles O18: construction copies the image into the buffer, and no store, hence no step, writes it. -/
theorem cartridgeConstant : Obligations.CartridgeConstant := by
  unfold Obligations.CartridgeConstant
  refine ⟨fun bytes init s h => ?_, fun s t h => sameCartridge_step h⟩
  obtain ⟨rom, ram, hb⟩ := construct_image_bus h
  rw [hb]
  exact ⟨rfl, fun i hi => cartByte_construct bytes init rom ram hi⟩

end Sys2Proof.Machine
end

section
/-! The address space by numbers: its read and write functions by ranges (20_memory.md R57, R58), and what the four
bank-switch writes (R69 to R72) set, as arithmetic on the stored byte. -/

namespace Sys2Proof.Machine

/-! ### The read and write functions (20_memory.md R57, R58) -/

theorem AddressSpace.eramReachable_iff (b : AddressSpace) :
    b.eramReachable = true ↔ b.ramEnabled = true ∧ b.ramBankCount > 0 := by
  unfold AddressSpace.eramReachable
  rw [Bool.and_eq_true, decide_eq_true_eq]

/-- One rung of a map by ranges. -/
theorem eq_ite_of {α : Type} {c : Prop} [Decidable c] {x a b : α} (hc : c → x = a) (hn : ¬c → x = b) :
    x = if c then a else b :=
  (ite_eq_iff'.2 ⟨fun h => (hc h).symm, fun h => (hn h).symm⟩).symm

/-- Settles O23: each range of the map is one region, whose read is a law of `State.peek`. -/
theorem readMap : Obligations.ReadMap := by
  unfold Obligations.ReadMap
  intro s addr
  refine eq_ite_of (fun h => State.peek_romFixed ((regionOf_romFixed addr).2 h)) fun _ => ?_
  refine eq_ite_of (fun _ => State.peek_romBanked ((regionOf_romBanked addr).2 (by omega))) fun _ => ?_
  refine eq_ite_of (fun _ => State.peek_vram ((regionOf_vram addr).2 (by omega))) fun _ => ?_
  refine eq_ite_of (fun _ => ?eram) fun _ => ?_
  case eram =>
    rw [State.peek_eram ((regionOf_eram addr).2 (by omega))]
    exact if_congr s.bus.eramReachable_iff rfl rfl
  refine eq_ite_of (fun _ => State.peek_wram ((regionOf_wram addr).2 (by omega))) fun _ => ?_
  refine eq_ite_of (fun _ => State.peek_echo ((regionOf_echo addr).2 (by omega))) fun _ => ?_
  refine eq_ite_of (fun _ => State.peek_oam ((regionOf_oam addr).2 (by omega))) fun _ => ?_
  refine eq_ite_of (fun _ => State.peek_unmapped ((regionOf_unmapped addr).2 (by omega))) fun _ => ?_
  refine eq_ite_of (fun _ => ?io) fun _ => ?_
  case io =>
    have hio : regionOf addr = .io := (regionOf_io addr).2 (by omega)
    split
    · next r hr => exact State.peek_displayReg hio hr
    · next hr => exact State.peek_external hio hr
  exact eq_ite_of (fun _ => State.peek_hram ((regionOf_hram addr).2 (by omega)))
    fun _ => State.peek_ie ((regionOf_ie addr).2 (by omega))

/-- Settles O24: each range of the map is one region or one bank-switch write, whose store is a law of `State.store`; no
store changes the cartridge. -/
theorem writeMap : Obligations.WriteMap := by
  unfold Obligations.WriteMap
  intro s addr v
  obtain ⟨hcart, hlen, -, -⟩ := sameCartridge_store s addr v
  refine ⟨?_, hcart, hlen⟩
  refine eq_ite_of (State.store_ramEnable v) fun _ => ?_
  refine eq_ite_of (fun h => State.store_romLow v (by omega) h) fun _ => ?_
  refine eq_ite_of (fun h => State.store_upper v (by omega) h) fun _ => ?_
  refine eq_ite_of (fun h => State.store_mode v (by omega) h) fun _ => ?_
  refine eq_ite_of (fun _ => State.store_vram v ((regionOf_vram addr).2 (by omega))) fun _ => ?_
  refine eq_ite_of (fun _ => ?eram) fun _ => ?_
  case eram =>
    have heram : regionOf addr = .eram := (regionOf_eram addr).2 (by omega)
    exact eq_ite_of (fun h => State.store_eram v heram (s.bus.eramReachable_iff.2 h))
      fun h => State.store_eram_off v heram (Bool.eq_false_iff.2 (h ∘ s.bus.eramReachable_iff.1))
  refine eq_ite_of (fun _ => State.store_wram v ((regionOf_wram addr).2 (by omega))) fun _ => ?_
  refine eq_ite_of (fun _ => State.store_echo v ((regionOf_echo addr).2 (by omega))) fun _ => ?_
  refine eq_ite_of (fun _ => State.store_oam v ((regionOf_oam addr).2 (by omega))) fun _ => ?_
  refine eq_ite_of (fun _ => State.store_unmapped v ((regionOf_unmapped addr).2 (by omega))) fun _ => ?_
  refine eq_ite_of (fun _ => ?io) fun _ => ?_
  case io =>
    have hio : regionOf addr = .io := (regionOf_io addr).2 (by omega)
    split
    · next r hr => exact State.store_displayReg v hio hr
    · next hr => exact State.store_external v hio hr
  exact eq_ite_of (fun _ => State.store_hram v ((regionOf_hram addr).2 (by omega)))
    fun _ => State.store_ie v ((regionOf_ie addr).2 (by omega))

/-! ### The bank-switch protocol (R69 to R72) -/

/-- A mask of the low `k` bits takes the value modulo `2 ^ k`. -/
theorem toNat_and_of_lowMask {w : Nat} {x mask : BitVec w} (k : Nat) (hm : mask.toNat = 2 ^ k - 1) :
    (x &&& mask).toNat = x.toNat % 2 ^ k := by
  rw [BitVec.toNat_and, hm, Nat.and_two_pow_sub_one_eq_mod]

/-- The ROM bank register is its upper two bits and its low five, which do not overlap. -/
theorem toNat_or_of_upper_low {upper low : BitVec 7} {q r : Nat} (hu : upper.toNat = 32 * q) (hl : low.toNat = r)
    (hr : r < 32) : (upper ||| low).toNat = 32 * q + r := by
  rw [BitVec.toNat_or, hu, hl]
  exact (Nat.two_pow_add_eq_or_of_lt (i := 5) hr q).symm

theorem toNat_and_upperMask (bank : BitVec 7) : (bank &&& 0x60).toNat = 32 * (bank.toNat / 32) := by
  revert bank
  decide

/-- RAM enable (R69) is decided by the low nibble of the stored byte. -/
theorem AddressSpace.bankWriteRamEnable_eq (b : AddressSpace) (v : Byte) :
    b.bankWriteRamEnable v = { b with ramEnabled := decide (v.toNat % 16 = 0xA) } := by
  have hlow : (v &&& 0x0F).toNat = v.toNat % 16 := toNat_and_of_lowMask 4 rfl
  have henable : (v &&& 0x0F == 0x0A) = decide (v.toNat % 16 = 0xA) := by
    rw [← hlow, beq_eq_decide]
    exact decide_eq_decide.2 BitVec.toNat_inj.symm
  unfold AddressSpace.bankWriteRamEnable
  rw [henable]

/-- The low five bits of the ROM bank (R70), 0 coerced to 1; the upper two are kept. -/
theorem AddressSpace.bankWriteRomLow_eq (b : AddressSpace) (v : Byte) :
    ∃ bank : BitVec 7, b.bankWriteRomLow v = { b with romBank := bank } ∧
      bank.toNat = 32 * (b.romBank.toNat / 32) + (if v.toNat % 32 = 0 then 1 else v.toNat % 32) := by
  refine ⟨_, rfl, ?_⟩
  have hfield : ((v &&& 0x1F).setWidth 7).toNat = v.toNat % 32 := by
    have hand : (v &&& 0x1F).toNat = v.toNat % 32 := toNat_and_of_lowMask 5 rfl
    rw [BitVec.toNat_setWidth, hand]
    omega
  have hlow : (if (v &&& 0x1F).setWidth 7 = 0 then (1 : BitVec 7) else (v &&& 0x1F).setWidth 7).toNat =
      if v.toNat % 32 = 0 then 1 else v.toNat % 32 := by
    rw [apply_ite BitVec.toNat, hfield]
    exact if_congr (by rw [← hfield]; exact BitVec.toNat_inj.symm) rfl rfl
  exact toNat_or_of_upper_low (toNat_and_upperMask b.romBank) hlow (by split <;> omega)

/-- In ROM banking mode, the upper two bits of the ROM bank (R71); the low five are kept. -/
theorem AddressSpace.bankWriteUpper_rom {b : AddressSpace} (v : Byte) (h : b.bankingMode = false) :
    ∃ bank : BitVec 7, b.bankWriteUpper v = { b with romBank := bank } ∧
      bank.toNat = 32 * (v.toNat % 4) + b.romBank.toNat % 32 := by
  refine ⟨_, if_neg (by simp [h]), ?_⟩
  have hupper : ((v &&& 0x03).setWidth 7 <<< 5).toNat = 32 * (v.toNat % 4) := by
    have hand : (v &&& 0x03).toNat = v.toNat % 4 := toNat_and_of_lowMask 2 rfl
    rw [BitVec.toNat_shiftLeft, BitVec.toNat_setWidth, hand, Nat.shiftLeft_eq]
    omega
  rw [BitVec.or_comm]
  exact toNat_or_of_upper_low hupper (toNat_and_of_lowMask 5 rfl) (by omega)

/-- In RAM banking mode, the RAM bank (R71). -/
theorem AddressSpace.bankWriteUpper_ram {b : AddressSpace} (v : Byte) (h : b.bankingMode = true) :
    ∃ bank : BitVec 2, b.bankWriteUpper v = { b with ramBank := bank } ∧ bank.toNat = v.toNat % 4 :=
  ⟨v.setWidth 2, if_pos h, BitVec.toNat_setWidth 2 v⟩

/-- The banking mode (R72) is the stored byte's parity. -/
theorem AddressSpace.bankWriteMode_eq (b : AddressSpace) (v : Byte) :
    b.bankWriteMode v = { b with bankingMode := decide (v.toNat % 2 = 1) } := by
  have hbit : v.getLsbD 0 = decide (v.toNat % 2 = 1) := Nat.testBit_zero v.toNat
  unfold AddressSpace.bankWriteMode
  rw [hbit]

/-- Settles O25: a store below 0x8000 is the bank-switch write of its range, and each of them sets one register. -/
theorem bankProtocol : Obligations.BankProtocol := by
  unfold Obligations.BankProtocol
  intro s addr v
  refine ⟨fun h => ?ramEnable, fun h h' => ?romLow, fun h h' hmode => ?upperRom, fun h h' hmode => ?upperRam,
    fun h h' => ?mode⟩
  case ramEnable => rw [State.store_ramEnable v h, s.bus.bankWriteRamEnable_eq v]
  case romLow =>
    obtain ⟨bank, hbus, hval⟩ := s.bus.bankWriteRomLow_eq v
    exact ⟨bank, by rw [State.store_romLow v h h', hbus], hval⟩
  case upperRom =>
    obtain ⟨bank, hbus, hval⟩ := AddressSpace.bankWriteUpper_rom v hmode
    exact ⟨bank, by rw [State.store_upper v h h', hbus], hval⟩
  case upperRam =>
    obtain ⟨bank, hbus, hval⟩ := AddressSpace.bankWriteUpper_ram v hmode
    exact ⟨bank, by rw [State.store_upper v h h', hbus], hval⟩
  case mode => rw [State.store_mode v h h', s.bus.bankWriteMode_eq v]

end Sys2Proof.Machine
end

section
/-! A step that ends the run: of a halted engine (30_encoding.md R121), and of one that fetches an opcode with no table
entry (R124). The timer is not advanced in either (60_exceptions.md R316). -/

namespace Sys2Proof.Machine

/-! ### The orchestrator's part of a step (60_exceptions.md R315, R316) -/

/-- The converse of `step_next`: a completed engine step, then the orchestrator's part. -/
theorem step_of_engineStep {s t : State} (h : engineStep s = .next t) : step s = .next (afterStep t) := by
  unfold step
  rw [h]

/-- The timer is advanced on `Cycles(n)` only (R316). -/
theorem afterStep_of_runEnded {s : State} (h : s.runEnded) : afterStep s = s := by
  unfold afterStep
  rcases h with h | h <;> rw [h]

/-- A step whose engine step ends the run is that engine step. -/
theorem step_of_runEnded {s t : State} (h : engineStep s = .next t) (ht : t.runEnded) : step s = .next t := by
  rw [step_of_engineStep h, afterStep_of_runEnded ht]

/-- Settles O12: the engine answers `Halted` without fetching, and the timer is not advanced. -/
theorem haltedStep : Obligations.HaltedStep := by
  unfold Obligations.HaltedStep
  intro s h
  exact step_of_runEnded (engineStep_of_halted h) (.inl rfl)

/-! ### An opcode with no table entry (30_encoding.md R124) -/

/-- Each of the 11 values lies in block 0xC0 to 0xFF, where the bytes after it are not looked at. -/
theorem isUnimplemented_of_mem {op : Byte} (h : op ∈ unimplementedOpcodes) (d1 d2 : Byte) :
    isUnimplemented (decodeParts op d1 d2) = true := by
  unfold unimplementedOpcodes at h
  fin_cases h <;> rfl

/-- Exactly the 11 values of R124 decode to an unimplemented opcode, whatever bytes follow. -/
theorem decodeParts_unimplemented_iff (op d1 d2 : Byte) :
    (∃ u, decodeParts op d1 d2 = .unimplemented u) ↔ op ∈ unimplementedOpcodes :=
  ⟨fun ⟨_, hu⟩ => mem_unimplementedOpcodes_of_decodeParts hu,
    fun h => (isUnimplemented_iff _).mp (isUnimplemented_of_mem h d1 d2)⟩

theorem exec_unimplemented_eq (u : Unimpl) (s : State) :
    exec (.unimplemented u) s = .next { s with outcome := some .unimplementedOpcode } :=
  (exec_unimplemented u s).trans (raiseUnimplemented_eq s)

/-- The engine fetches the one byte of the opcode and commits nothing else. -/
theorem engineStep_of_unimplemented {s : State} (hs : s.regs.halted = false)
    (hop : s.peek s.regs.pc ∈ unimplementedOpcodes) :
    engineStep s = .next { s.afterFetch8 with outcome := some .unimplementedOpcode } := by
  obtain ⟨d1, d2, hd⟩ := s.nextInstr_eq_decodeParts
  obtain ⟨u, hu⟩ := (decodeParts_unimplemented_iff _ d1 d2).mpr hop
  have hfetched : s.fetchedState = s.afterFetch8 := by
    unfold State.fetchedState State.nextLength
    rw [instrLength_of_unimplementedOpcodes _ hop]
    rfl
  rw [engineStep_of_running hs, hd, hu, hfetched, exec_unimplemented_eq]

/-- Settles O8: the decoder names an unimplemented opcode at the 11 values only, its meaning records the outcome, and
its fetch is the one byte read and PC moved past it. -/
theorem unimplementedOpcodes_decode_and_effect : Obligations.UnimplementedOpcodes := by
  unfold Obligations.UnimplementedOpcodes
  refine ⟨decodeParts_unimplemented_iff, decodeExtended_ne_unimplemented, exec_unimplemented_eq, fun s hs hop => ?_⟩
  exact step_of_runEnded (engineStep_of_unimplemented hs hop) (.inr rfl)

end Sys2Proof.Machine
end

section
/-! Loads, stores and stack transfers (40_loads.md R140 to R164). Each instruction of the chapter is one of the shared
operations, and each operation's cost, result and frame are said once, whatever instruction calls it. -/

namespace Sys2Proof.Machine

/-! ### The registers a transfer keeps -/

theorem State.setReg_reg_of_notMem (s : State) (r : Reg8) (v : Byte) :
    ∀ q, q ∉ [r] → (s.setReg r v).reg q = s.reg q := by
  intro q hq
  rw [State.setReg_reg, if_neg (by simpa using hq)]

theorem State.setHl_reg_of_notMem (s : State) (w : Word) :
    ∀ q, q ∉ [.h, .l] → (s.setHl w).reg q = s.reg q := by
  intro q hq
  obtain ⟨hh, hl⟩ : q ≠ .h ∧ q ≠ .l := by simpa using hq
  rw [State.setHl_reg, if_neg hl, if_neg hh]

theorem State.setPair_reg_of_notMem (s : State) (p : Pair) (w : Word) :
    ∀ q, q ∉ pairRegs p → (s.setPair p w).reg q = s.reg q := by
  intro q hq
  cases p <;> simp_all [pairRegs]

theorem State.setStackPair_reg_of_notMem (s : State) (p : StackPair) (w : Word) :
    ∀ q, q ∉ stackPairRegs p → (s.setStackPair p w).reg q = s.reg q := by
  intro q hq
  cases p <;> simp_all [stackPairRegs]

/-! ### 8-bit transfers: LD r,r' and LD r,d8 (R140, R141) -/

theorem encode_ldReg (dst src : Reg8) :
    encode (.ldReg dst src) = [BitVec.ofNat 8 (0x40 + 8 * dst.field + src.field)] := by
  cases dst <;> cases src <;> rfl

theorem encode_ldRegImm (dst : Reg8) (v : Byte) :
    encode (.ldRegImm dst v) = [BitVec.ofNat 8 (0x06 + 8 * dst.field), v] := by
  cases dst <;> rfl

/-- What a transfer into a register does: `r` holds `v`, and nothing else of the block changes. -/
def SetsReg (r : Reg8) (v : Byte) (s t : State) : Prop :=
  t.reg r = v ∧ RegsKeptBut [r] s t ∧ t.regs.f = s.regs.f ∧ ControlKept s t ∧ MemoryKept s t

theorem completes_setReg {i : Instr} {s : State} {n : Nat} {r : Reg8} {v : Byte}
    (h : exec i s = finish n (s.setReg r v)) : Completes i s n (SetsReg r v s) := by
  exact completes_finish h ⟨by simp, regsKeptBut_of rfl (s.setReg_reg_of_notMem r v), by simp,
    by simp [ControlKept, LatchesKept], memoryKept_of (by simp) (by simp) (by simp)⟩

/-- Settles O30: both forms are one register written. -/
theorem loadRegister : Obligations.LoadRegister := by
  unfold Obligations.LoadRegister
  intro dst src v s
  exact ⟨encode_ldReg dst src, completes_setReg (exec_ldReg dst src s),
    encode_ldRegImm dst v, completes_setReg (exec_ldRegImm dst v s)⟩

/-! ### Loads of a byte from memory (R142, R145, R146, R149, R151, R153) -/

theorem encode_ldRegHl (dst : Reg8) : encode (.ldRegHl dst) = [BitVec.ofNat 8 (0x46 + 8 * dst.field)] := by
  cases dst <;> rfl

/-- What the load of a byte does: `r` holds the byte at `a`, and the one access is that read. -/
def LoadsByte (r : Reg8) (a : Word) (s t : State) : Prop :=
  t.reg r = s.peek a ∧ RegsKeptBut [r] s t ∧ t.regs.f = s.regs.f ∧ ControlKept s t ∧ Reads [a] s t

theorem completes_loadByte {i : Instr} {s : State} {n : Nat} {r : Reg8} {a : Word}
    (h : exec i s = finish n ((s.afterRead a).setReg r (s.peek a))) : Completes i s n (LoadsByte r a s) := by
  have hkept : ∀ q, q ∉ [r] → ((s.afterRead a).setReg r (s.peek a)).reg q = s.reg q := fun q hq =>
    ((s.afterRead a).setReg_reg_of_notMem r _ q hq).trans (s.afterRead_reg a q)
  exact completes_finish h ⟨by simp, regsKeptBut_of rfl hkept, by simp, by simp [ControlKept, LatchesKept],
    reads_of [a] (by simp) (by simp) (by simp)⟩

/-- Settles O31: each form is one byte loaded, at the address that its operands name before the write. -/
theorem loadByte : Obligations.LoadByte := by
  unfold Obligations.LoadByte
  intro s a n dst loads
  exact ⟨⟨encode_ldRegHl dst, completes_loadByte (exec_ldRegHl dst s)⟩,
    ⟨rfl, completes_loadByte (exec_ldAMemBc s)⟩,
    ⟨rfl, completes_loadByte (exec_ldAMemDe s)⟩,
    ⟨rfl, completes_loadByte (exec_ldAMemA16 a s)⟩,
    ⟨rfl, completes_loadByte (exec_ldhAMemA8 n s)⟩,
    ⟨rfl, completes_loadByte (exec_ldAMemC s)⟩⟩

/-! ### Stores of a byte (R143, R144, R147, R148, R150, R152, R154) -/

theorem encode_ldHlReg (src : Reg8) : encode (.ldHlReg src) = [BitVec.ofNat 8 (0x70 + src.field)] := by
  cases src <;> rfl

/-- What the store of a byte does: `x` is stored at `a`, and no register changes. -/
def StoresByte (a : Word) (x : Byte) (s t : State) : Prop :=
  RegsKeptBut [] s t ∧ t.regs.f = s.regs.f ∧ ControlKept s t ∧ Stores [(a, x)] s t

theorem completes_storeByte {i : Instr} {s : State} {n : Nat} {a : Word} {x : Byte}
    (h : exec i s = finish n (s.store a x)) : Completes i s n (StoresByte a x s) :=
  completes_finish h ⟨regsKeptBut_of rfl fun q _ => s.store_reg a x q, by simp, by simp [ControlKept, LatchesKept],
    stores_of [(a, x)] rfl rfl rfl⟩

/-- Settles O32: each form is one byte stored, at the address that its operands name. -/
theorem storeByte : Obligations.StoreByte := by
  unfold Obligations.StoreByte
  intro s a n v src stores
  exact ⟨⟨encode_ldHlReg src, completes_storeByte (exec_ldHlReg src s)⟩,
    ⟨rfl, completes_storeByte (exec_ldMemHlD8 v s)⟩,
    ⟨rfl, completes_storeByte (exec_ldMemBcA s)⟩,
    ⟨rfl, completes_storeByte (exec_ldMemDeA s)⟩,
    ⟨rfl, completes_storeByte (exec_ldMemA16A a s)⟩,
    ⟨rfl, completes_storeByte (exec_ldhMemA8A n s)⟩,
    ⟨rfl, completes_storeByte (exec_ldMemCA s)⟩⟩

/-! ### The forms that move HL (R155 to R158) -/

theorem State.setHl_add_hl_toNat (u s : State) (d : Word) :
    (u.setHl (s.hl + d)).hl.toNat = (s.hl.toNat + d.toNat) % 65536 := by
  rw [State.setHl_hl, BitVec.toNat_add]

/-- What a store of A through HL does that moves HL by `d` modulo 65536, -1 being 65535. -/
def StoresAStepsHl (d : Nat) (s t : State) : Prop :=
  t.hl.toNat = (s.hl.toNat + d) % 65536 ∧ RegsKeptBut [.h, .l] s t ∧ t.regs.f = s.regs.f ∧ ControlKept s t ∧
    Stores [(s.hl, s.regs.a)] s t

theorem completes_storeAStep {i : Instr} {s : State} {d : Word} {k : Nat} (h : exec i s = storeAStep d s)
    (hd : d.toNat = k) : Completes i s 2 (StoresAStepsHl k s) := by
  subst hd
  have hkept : ∀ q, q ∉ [.h, .l] → ((s.store s.hl s.regs.a).setHl (s.hl + d)).reg q = s.reg q := fun q hq =>
    (State.setHl_reg_of_notMem _ _ q hq).trans (s.store_reg _ _ q)
  exact completes_finish h ⟨State.setHl_add_hl_toNat _ s d, regsKeptBut_of rfl hkept, by simp,
    by simp [ControlKept, LatchesKept], stores_of [(s.hl, s.regs.a)] rfl rfl rfl⟩

/-- What a load of A through HL does that moves HL by `d` modulo 65536, -1 being 65535. -/
def LoadsAStepsHl (d : Nat) (s t : State) : Prop :=
  t.regs.a = s.peek s.hl ∧ t.hl.toNat = (s.hl.toNat + d) % 65536 ∧ RegsKeptBut [.a, .h, .l] s t ∧
    t.regs.f = s.regs.f ∧ ControlKept s t ∧ Reads [s.hl] s t

theorem completes_loadAStep {i : Instr} {s : State} {d : Word} {k : Nat} (h : exec i s = loadAStep d s)
    (hd : d.toNat = k) : Completes i s 2 (LoadsAStepsHl k s) := by
  subst hd
  have hkept : ∀ q, q ∉ [.a, .h, .l] →
      (((s.afterRead s.hl).setReg .a (s.peek s.hl)).setHl (s.hl + d)).reg q = s.reg q := by
    intro q hq
    obtain ⟨ha, hhl⟩ : q ∉ [.a] ∧ q ∉ [.h, .l] := by simpa using hq
    calc _ = ((s.afterRead s.hl).setReg .a (s.peek s.hl)).reg q := State.setHl_reg_of_notMem _ _ q hhl
      _ = (s.afterRead s.hl).reg q := State.setReg_reg_of_notMem _ _ _ q ha
      _ = s.reg q := s.afterRead_reg _ q
  exact completes_finish h ⟨rfl, State.setHl_add_hl_toNat _ s d, regsKeptBut_of rfl hkept, by simp,
    by simp [ControlKept, LatchesKept], reads_of [s.hl] (by simp) (by simp) (by simp)⟩

/-- Settles O33: each form is the access at the old HL, then HL moved by 1 or by -1. -/
theorem loadStoreStepHl : Obligations.LoadStoreStepHl := by
  unfold Obligations.LoadStoreStepHl
  intro s stepsHl
  have hinc : (1 : Word).toNat = 1 := rfl
  have hdec : (-1 : Word).toNat = 65535 := rfl
  exact ⟨⟨rfl, completes_storeAStep (exec_ldMemHlIncA s) hinc⟩,
    ⟨rfl, completes_storeAStep (exec_ldMemHlDecA s) hdec⟩,
    ⟨rfl, completes_loadAStep (exec_ldAMemHlInc s) hinc⟩,
    ⟨rfl, completes_loadAStep (exec_ldAMemHlDec s) hdec⟩⟩

/-! ### 16-bit transfers (R159 to R161) -/

theorem encode_ldPair (p : Pair) (w : Word) :
    encode (.ldPair p w) = [BitVec.ofNat 8 (0x01 + 16 * p.field), loByte w, hiByte w] := by
  cases p <;> rfl

theorem State.setPair_sp_of_ne (s : State) {p : Pair} (w : Word) (hp : p ≠ .sp) :
    (s.setPair p w).regs.sp = s.regs.sp := by
  rw [State.setPair_sp, if_neg hp]

/-- What a transfer into a pair does: `p` holds `w`, and nothing else of the block changes. -/
def SetsPair (p : Pair) (w : Word) (s t : State) : Prop :=
  t.pair p = w ∧ RegsKeptBut (pairRegs p) s t ∧ (p ≠ .sp → t.regs.sp = s.regs.sp) ∧ t.regs.f = s.regs.f ∧
    t.regs.pc = s.regs.pc ∧ LatchesKept s t ∧ MemoryKept s t

theorem completes_setPair {i : Instr} {s : State} {n : Nat} {p : Pair} {w : Word}
    (h : exec i s = finish n (s.setPair p w)) : Completes i s n (SetsPair p w s) :=
  completes_finish h ⟨by simp, regsKeptBut_of rfl (s.setPair_reg_of_notMem p w), s.setPair_sp_of_ne w, by simp,
    by simp, by simp [LatchesKept], memoryKept_of (by simp) (by simp) (by simp)⟩

/-- The store of a word is two byte stores, low byte first (00_scope.md R13), and writes no register. -/
theorem completes_storeWord {i : Instr} {s : State} {n : Nat} {a w : Word}
    (h : exec i s = finish n (s.storeWord a w)) :
    Completes i s n fun t => RegsKeptBut [] s t ∧ t.regs.f = s.regs.f ∧ ControlKept s t ∧
      Stores [(a, loByte w), (a + 1, hiByte w)] s t := by
  have hregs : (s.storeWord a w).regs = s.regs := (State.store_regs _ _ _).trans (s.store_regs _ _)
  refine completes_finish h ⟨regsKeptBut_of hregs fun _ _ => rfl, congrArg Regs.f hregs, ?_,
    stores_of [(a, loByte w), (a + 1, hiByte w)] rfl rfl rfl⟩
  simp [ControlKept, LatchesKept, hregs]

/-- Settles O34: a pair written, a word stored, and SP written. -/
theorem loadWord : Obligations.LoadWord := by
  unfold Obligations.LoadWord
  intro s p w a
  refine ⟨⟨encode_ldPair p w, completes_setPair (exec_ldPair p w s)⟩,
    ⟨rfl, completes_storeWord (exec_ldMemA16Sp a s)⟩, rfl, ?_⟩
  obtain ⟨t, he, ho, hsp, hregs, -, hf, hpc, hlatch, hmem⟩ :
      Completes .ldSpHl s 2 (SetsPair .sp s.hl s) := completes_setPair (exec_ldSpHl s)
  exact ⟨t, he, ho, hsp, hregs, hf, hpc, hlatch, hmem⟩

/-! ### PUSH and POP (R162 to R164) -/

theorem encode_push (p : StackPair) : encode (.push p) = [BitVec.ofNat 8 (0xC5 + 16 * p.field)] := by
  cases p <;> rfl

theorem encode_pop (p : StackPair) : encode (.pop p) = [BitVec.ofNat 8 (0xC1 + 16 * p.field)] := by
  cases p <;> rfl

/-- `RP[qq] <- w` is read back, for AF with the low nibble of F cleared (10_state.md R25). -/
theorem State.setStackPair_stackPair (s : State) (p : StackPair) (w : Word) :
    (s.setStackPair p w).stackPair p = mkWord (hiByte w) (if p = .af then loByte w &&& 0xF0 else loByte w) := by
  cases p <;> rfl

/-- Only POP AF writes F. -/
theorem State.setStackPair_f_of_ne (s : State) {p : StackPair} (w : Word) (hp : p ≠ .af) :
    (s.setStackPair p w).regs.f = s.regs.f := by
  rw [State.setStackPair_f, if_neg hp]

theorem completes_pushPair (p : StackPair) (s : State) :
    Completes (.push p) s 4 fun t =>
      t.regs.sp = s.regs.sp - 2 ∧ RegsKeptBut [] s t ∧ t.regs.f = s.regs.f ∧ t.regs.pc = s.regs.pc ∧
        LatchesKept s t ∧
        Stores [(s.regs.sp - 1, hiByte (s.stackPair p)), (s.regs.sp - 2, loByte (s.stackPair p))] s t :=
  completes_finish (exec_push p s) ⟨s.push16_sp _, regsKeptBut_of rfl fun q _ => s.push16_reg _ q, by simp, by simp,
    by simp [LatchesKept], push16_stores s _ rfl rfl rfl⟩

/-- What a pop does: `p` holds the word whose low byte is read at SP and whose high byte is read next, SP moves past
both. -/
def PopsInto (p : StackPair) (s t : State) : Prop :=
  let lo := s.peek s.regs.sp
  let hi := (s.afterRead s.regs.sp).peek (s.regs.sp + 1)
  t.stackPair p = mkWord hi (if p = .af then lo &&& 0xF0 else lo) ∧ RegsKeptBut (stackPairRegs p) s t ∧
    (p ≠ .af → t.regs.f = s.regs.f) ∧ t.regs.sp = s.regs.sp + 2 ∧ t.regs.pc = s.regs.pc ∧ LatchesKept s t ∧
    Reads [s.regs.sp, s.regs.sp + 1] s t

theorem completes_popPair (p : StackPair) (s : State) : Completes (.pop p) s 3 (PopsInto p s) := by
  have hpair : (s.afterPop16.setStackPair p s.pop16).stackPair p =
      mkWord ((s.afterRead s.regs.sp).peek (s.regs.sp + 1))
        (if p = .af then s.peek s.regs.sp &&& 0xF0 else s.peek s.regs.sp) := by
    rw [State.setStackPair_stackPair, State.pop16_eq, State.peekWord, hiByte_mkWord, loByte_mkWord]
  have hkept : ∀ q, q ∉ stackPairRegs p → (s.afterPop16.setStackPair p s.pop16).reg q = s.reg q := fun q hq =>
    (State.setStackPair_reg_of_notMem _ p _ q hq).trans (s.afterPop16_reg q)
  have hflags : p ≠ .af → (s.afterPop16.setStackPair p s.pop16).regs.f = s.regs.f := fun hp =>
    (State.setStackPair_f_of_ne _ _ hp).trans s.afterPop16_f
  exact completes_finish (exec_pop p s) ⟨(State.stackPair_mk _ _ _ _ _ p).trans hpair, regsKeptBut_of rfl hkept,
    hflags, by simp, by simp, by simp [LatchesKept], afterPop16_reads s (by simp) (by simp) (by simp)⟩

/-- Settles O35: PUSH is the two stores of `push16`, POP the two reads of `pop16` and the pair written. -/
theorem pushPop : Obligations.PushPop := by
  unfold Obligations.PushPop
  intro s p
  exact ⟨⟨encode_push p, completes_pushPair p s⟩, encode_pop p, completes_popPair p s⟩

end Sys2Proof.Machine
end

section
/-! 8-bit arithmetic and logic (41_alu8.md R170 to R202). An ALU operation has one effect whatever form its operand
has, said once as `AluEffect`; the arithmetic of each operation is a law of its result and flag function. -/

namespace Sys2Proof.Machine

/-! ### A byte made from an exact integer -/

theorem ofInt8_toNat (i : Int) : ((BitVec.ofInt 8 i).toNat : Int) = i % 256 := by
  rw [BitVec.toNat_ofInt]
  exact Int.toNat_of_nonneg (Int.emod_nonneg i (by decide))

theorem byte_beq_zero (v : Byte) : (v == 0) = decide ((v.toNat : Int) = 0) := by
  rw [beq_eq_decide, decide_eq_decide, BitVec.toNat_eq]
  exact Int.natCast_eq_zero.symm

theorem ofInt8_beq_zero (i : Int) : (BitVec.ofInt 8 i == 0) = decide (i % 256 = 0) := by
  rw [byte_beq_zero, ofInt8_toNat]

theorem ofNat8_beq_zero (n : Nat) : (BitVec.ofNat 8 n == 0) = decide (n % 256 = 0) := by
  rw [byte_beq_zero, BitVec.toNat_ofNat, decide_eq_decide]
  exact Int.natCast_eq_zero

/-! ### What an ALU operation writes -/

/-- The four flags are those of `r`. -/
def FlagsOf (r : AluResult) (s t : State) : Prop := FlagsBecome r.z r.n r.h r.c s t

/-- A holds the result of `r`, the flags are those of `r`, and nothing else of the registers is written. -/
def WritesResult (r : AluResult) (s t : State) : Prop :=
  t.regs.a = r.res ∧ FlagsOf r s t ∧ RegsKeptBut [.a] s t ∧ ControlKept s t

/-- The flags are those of `r`, and nothing else of the registers is written. -/
def WritesFlags (r : AluResult) (s t : State) : Prop :=
  FlagsOf r s t ∧ RegsKeptBut [] s t ∧ ControlKept s t

/-- The effect of an ALU operation with operand `b` on the registers: CP discards the result (R192). -/
def AluEffect (op : AluOp) (b : Byte) (s t : State) : Prop :=
  let r := aluResult op s.regs.a b s.fc
  match op with
  | .cp => WritesFlags r s t
  | _ => WritesResult r s t

theorem flagsBecome_setFlags (s : State) (z n h c : Bool) : FlagsBecome z n h c s (s.setFlags z n h c) :=
  ⟨s.setFlags_fz z n h c, s.setFlags_fn z n h c, s.setFlags_fh z n h c, s.setFlags_fc z n h c, by simp⟩

theorem controlKept_of_regs {s t u : State} (ht : t.regs = u.regs) (hu : ControlKept s u) : ControlKept s t := by
  unfold ControlKept LatchesKept at *
  rwa [ht]

theorem writesFlags_of_regs {r : AluResult} {s t : State} (ht : t.regs = (s.setFlags r.z r.n r.h r.c).regs) :
    WritesFlags r s t :=
  ⟨flagsBecome_of ht (flagsBecome_setFlags s _ _ _ _), regsKeptBut_of ht fun q _ => s.setFlags_reg _ _ _ _ q,
    controlKept_of_regs ht (by simp [ControlKept, LatchesKept])⟩

theorem writesResult_of_regs {r : AluResult} {s t : State}
    (ht : t.regs = ((s.setFlags r.z r.n r.h r.c).setReg .a r.res).regs) : WritesResult r s t := by
  have hkept : ∀ q, q ∉ [.a] → ((s.setFlags r.z r.n r.h r.c).setReg .a r.res).reg q = s.reg q := fun q hq =>
    (State.setReg_reg_of_notMem _ .a r.res q hq).trans (s.setFlags_reg _ _ _ _ q)
  exact ⟨congrArg Regs.a ht, flagsBecome_of ht (flagsBecome_setFlags s _ _ _ _), regsKeptBut_of ht hkept,
    controlKept_of_regs ht (by simp [ControlKept, LatchesKept])⟩

theorem aluEffect_of_regs {op : AluOp} {b : Byte} {s t : State} (ht : t.regs = (applyAlu op b s).regs) :
    AluEffect op b s t := by
  cases op
  case cp => exact writesFlags_of_regs ht
  all_goals exact writesResult_of_regs ht

/-- An ALU operation reads no memory: its registers are those it gives in any state with the same registers. -/
theorem applyAlu_regs_congr {s u : State} (h : u.regs = s.regs) (op : AluOp) (b : Byte) :
    (applyAlu op b u).regs = (applyAlu op b s).regs := by
  cases u
  cases h
  cases op <;> rfl

/-! ### The three operand forms -/

theorem encode_aluReg (op : AluOp) (r : Reg8) :
    encode (.aluReg op r) = [BitVec.ofNat 8 (0x80 + 8 * op.field + r.field)] := by
  cases op <;> cases r <;> rfl

theorem encode_aluHl (op : AluOp) : encode (.aluHl op) = [BitVec.ofNat 8 (0x86 + 8 * op.field)] := by
  cases op <;> rfl

theorem encode_aluImm (op : AluOp) (v : Byte) :
    encode (.aluImm op v) = [BitVec.ofNat 8 (0xC6 + 8 * op.field), v] := by
  cases op <;> rfl

theorem Completes.imp {i : Instr} {s : State} {n : Nat} {P Q : State → Prop} (h : Completes i s n P)
    (hpq : ∀ t, P t → Q t) : Completes i s n Q := by
  obtain ⟨t, he, ho, ht⟩ := h
  exact ⟨t, he, ho, hpq t ht⟩

theorem completes_aluReg (op : AluOp) (r : Reg8) (s : State) :
    Completes (.aluReg op r) s 1 fun t => AluEffect op (s.reg r) s t ∧ MemoryKept s t := by
  obtain ⟨-, -, -, hb, hd, hh⟩ := applyAlu_keeps op (s.reg r) s
  exact completes_finish (exec_aluReg op r s) ⟨aluEffect_of_regs rfl, memoryKept_of hb hd hh⟩

theorem completes_aluHl (op : AluOp) (s : State) :
    Completes (.aluHl op) s 2 fun t => AluEffect op (s.peek s.hl) s t ∧ Reads [s.hl] s t := by
  obtain ⟨-, -, -, hb, hd, hh⟩ := applyAlu_keeps op (s.peek s.hl) (s.afterRead s.hl)
  exact completes_finish (exec_aluHl op s) ⟨aluEffect_of_regs (applyAlu_regs_congr (s.afterRead_regs s.hl) op _),
    reads_of [s.hl] (hb.trans (s.afterRead_bus _)) (hd.trans (s.afterRead_display _)) hh⟩

theorem completes_aluImm (op : AluOp) (v : Byte) (s : State) :
    Completes (.aluImm op v) s 2 fun t => AluEffect op v s t ∧ MemoryKept s t := by
  obtain ⟨-, -, -, hb, hd, hh⟩ := applyAlu_keeps op v s
  exact completes_finish (exec_aluImm op v s) ⟨aluEffect_of_regs rfl, memoryKept_of hb hd hh⟩

/-- Encoding, cost and effect of `op` with operands `r`, (HL) and `v`, `Q` being its effect with an operand byte. -/
def AluForms (op : AluOp) (s : State) (r : Reg8) (v : Byte) (Q : Byte → State → Prop) : Prop :=
  (encode (.aluReg op r) = [BitVec.ofNat 8 (0x80 + 8 * op.field + r.field)] ∧
    Completes (.aluReg op r) s 1 fun t => Q (s.reg r) t ∧ MemoryKept s t) ∧
  (encode (.aluHl op) = [BitVec.ofNat 8 (0x86 + 8 * op.field)] ∧
    Completes (.aluHl op) s 2 fun t => Q (s.peek s.hl) t ∧ Reads [s.hl] s t) ∧
  (encode (.aluImm op v) = [BitVec.ofNat 8 (0xC6 + 8 * op.field), v] ∧
    Completes (.aluImm op v) s 2 fun t => Q v t ∧ MemoryKept s t)

theorem aluForms_of_effect {op : AluOp} {s : State} {Q : Byte → State → Prop}
    (hq : ∀ b t, AluEffect op b s t → Q b t) (r : Reg8) (v : Byte) : AluForms op s r v Q :=
  ⟨⟨encode_aluReg op r, (completes_aluReg op r s).imp fun t => And.imp_left (hq _ t)⟩,
    ⟨encode_aluHl op, (completes_aluHl op s).imp fun t => And.imp_left (hq _ t)⟩,
    ⟨encode_aluImm op v, (completes_aluImm op v s).imp fun t => And.imp_left (hq v t)⟩⟩

/-! ### ADD and ADC (R171 to R176) -/

/-- The exact sum of `add8`, narrowed, and Z of it. -/
theorem addsToA_of_writesResult {b : Byte} {cin : Bool} {s t : State}
    (h : WritesResult (add8 s.regs.a b cin) s t) : AddsToA b cin s t := by
  obtain ⟨ha, hflags, hregs, hcontrol⟩ := h
  refine ⟨?_, ?_, hregs, hcontrol⟩
  · rw [ha]
    exact BitVec.toNat_ofNat _ 8
  · rw [← ofNat8_beq_zero]
    exact hflags

/-- Settles O36: ADD is `add8` with carry 0 and ADC is `add8` with the carry flag, in the three operand forms. -/
theorem addCarry : Obligations.AddCarry := by
  unfold Obligations.AddCarry
  intro s r v
  obtain ⟨addReg, addHl, addImm⟩ :=
    aluForms_of_effect (op := .add) (s := s) (fun _ _ => addsToA_of_writesResult) r v
  obtain ⟨adcReg, adcHl, adcImm⟩ :=
    aluForms_of_effect (op := .adc) (s := s) (fun _ _ => addsToA_of_writesResult) r v
  exact ⟨addReg, addHl, addImm, adcReg, adcHl, adcImm⟩

/-! ### SUB, SBC and CP (R177 to R182, R192 to R194) -/

/-- The flags of `sub8` are the borrows of the exact difference. -/
theorem subFlags_of_flagsOf {b : Byte} {bin : Bool} {s t : State}
    (h : FlagsOf (sub8 s.regs.a b bin) s t) : SubFlags b bin s t := by
  simp only [SubFlags, ← ofInt8_beq_zero]
  exact h

theorem subsFromA_of_writesResult {b : Byte} {bin : Bool} {s t : State}
    (h : WritesResult (sub8 s.regs.a b bin) s t) : SubsFromA b bin s t := by
  obtain ⟨ha, hflags, hregs, hcontrol⟩ := h
  refine ⟨?_, subFlags_of_flagsOf hflags, hregs, hcontrol⟩
  rw [ha]
  exact ofInt8_toNat _

theorem comparesA_of_writesFlags {b : Byte} {s t : State}
    (h : WritesFlags (sub8 s.regs.a b false) s t) : ComparesA b s t := by
  obtain ⟨hflags, hregs, hcontrol⟩ := h
  exact ⟨subFlags_of_flagsOf hflags, hregs, hcontrol⟩

/-- Settles O37: SUB and CP are `sub8` with borrow 0 and SBC is `sub8` with the carry flag, and CP keeps A. -/
theorem subtractCompare : Obligations.SubtractCompare := by
  unfold Obligations.SubtractCompare
  intro s r v
  obtain ⟨subReg, subHl, subImm⟩ :=
    aluForms_of_effect (op := .sub) (s := s) (fun _ _ => subsFromA_of_writesResult) r v
  obtain ⟨sbcReg, sbcHl, sbcImm⟩ :=
    aluForms_of_effect (op := .sbc) (s := s) (fun _ _ => subsFromA_of_writesResult) r v
  obtain ⟨cpReg, cpHl, cpImm⟩ :=
    aluForms_of_effect (op := .cp) (s := s) (fun _ _ => comparesA_of_writesFlags) r v
  exact ⟨subReg, subHl, subImm, sbcReg, sbcHl, sbcImm, cpReg, cpHl, cpImm⟩

/-! ### AND, XOR and OR (R183 to R191) -/

theorem logicToA_of_writesResult {res : Byte} {h : Bool} {s t : State}
    (hw : WritesResult (logic8 res h) s t) : LogicToA res h s t := by
  obtain ⟨ha, hflags, hregs, hcontrol⟩ := hw
  refine ⟨ha, ?_, hregs, hcontrol⟩
  rw [← beq_eq_decide]
  exact hflags

/-- Settles O38: the three operations are `logic8` of the bitwise result, and AND alone sets H. -/
theorem logic : Obligations.Logic := by
  unfold Obligations.Logic
  intro s r v a m
  obtain ⟨andReg, andHl, andImm⟩ :=
    aluForms_of_effect (op := .and) (s := s) (fun _ _ => logicToA_of_writesResult) r v
  obtain ⟨xorReg, xorHl, xorImm⟩ :=
    aluForms_of_effect (op := .xor) (s := s) (fun _ _ => logicToA_of_writesResult) r v
  obtain ⟨orReg, orHl, orImm⟩ :=
    aluForms_of_effect (op := .or) (s := s) (fun _ _ => logicToA_of_writesResult) r v
  exact ⟨andReg, andHl, andImm, xorReg, xorHl, xorImm, orReg, orHl, orImm⟩

/-! ### INC and DEC (R195 to R198) -/

theorem encode_incReg (r : Reg8) : encode (.incReg r) = [BitVec.ofNat 8 (0x04 + 8 * r.field)] := by
  cases r <;> rfl

theorem encode_decReg (r : Reg8) : encode (.decReg r) = [BitVec.ofNat 8 (0x05 + 8 * r.field)] := by
  cases r <;> rfl

theorem inc8_toNat (v : Byte) : (inc8 v).toNat = (v.toNat + 1) % 256 := BitVec.toNat_ofNat _ 8

theorem dec8_toNat (v : Byte) : (dec8 v).toNat = (v.toNat + 255) % 256 := by
  have hdec : ((dec8 v).toNat : Int) = ((v.toNat : Int) - 1) % 256 := ofInt8_toNat _
  omega

/-- The byte `res` is `v` moved by `d` modulo 256, the flags are Z of it, `n`, `h` and the carry flag kept. -/
def StepsByte (d : Nat) (n h : Bool) (v res : Byte) (s t : State) : Prop :=
  res.toNat = (v.toNat + d) % 256 ∧ FlagsBecome (decide (res = 0)) n h s.fc s t

theorem stepsByte_of_eq {d : Nat} {n h : Bool} {v w res : Byte} {s t : State} (hw : w = res)
    (hres : res.toNat = (v.toNat + d) % 256) (hflags : FlagsBecome (decide (res = 0)) n h s.fc s t) :
    StepsByte d n h v w s t := by
  subst hw
  exact ⟨hres, hflags⟩

/-- `INC r` and `DEC r`: the register and three flags written. -/
theorem completes_stepReg {i : Instr} {s : State} {r : Reg8} {d : Nat} {n h : Bool} {res : Byte}
    (he : exec i s = finish 1 ((((s.setReg r res).setFz (res == 0)).setFn n).setFh h))
    (hres : res.toNat = ((s.reg r).toNat + d) % 256) :
    Completes i s 1 fun t => StepsByte d n h (s.reg r) (t.reg r) s t ∧ RegsKeptBut [r] s t ∧ ControlKept s t ∧
      MemoryKept s t := by
  rw [beq_eq_decide] at he
  have hreg : ((((s.setReg r res).setFz (decide (res = 0))).setFn n).setFh h).reg r = res := by simp
  exact completes_finish he
    ⟨stepsByte_of_eq ((State.reg_of_regs rfl r).trans hreg) hres (flagsBecome_of rfl (by simp)),
    regsKeptBut_of rfl (by simpa using s.setReg_reg_of_notMem r res),
    by simp [ControlKept, LatchesKept], memoryKept_of (by simp) (by simp) (by simp)⟩

/-- `INC (HL)` and `DEC (HL)`: the byte read, the result stored there, three flags written. -/
theorem completes_stepHl {i : Instr} {s : State} {d : Nat} {n h : Bool} {res : Byte}
    (he : exec i s = finish 3 (((((s.afterRead s.hl).store s.hl res).setFz (res == 0)).setFn n).setFh h))
    (hres : res.toNat = ((s.peek s.hl).toNat + d) % 256) :
    Completes i s 3 fun t => ∃ res, StepsByte d n h (s.peek s.hl) res s t ∧ RegsKeptBut [] s t ∧ ControlKept s t ∧
      Stores [(s.hl, res)] (s.afterRead s.hl) t := by
  rw [beq_eq_decide] at he
  exact completes_finish he ⟨res, ⟨hres, flagsBecome_of rfl (by simp)⟩, regsKeptBut_of rfl (by simp),
    by simp [ControlKept, LatchesKept], stores_of [(s.hl, res)] rfl rfl rfl⟩

/-- Settles O39: both operations step the byte and take H from the value before, and the register and the (HL) form
share their effect. -/
theorem incDec : Obligations.IncDec := by
  unfold Obligations.IncDec
  intro s r incs decs
  exact ⟨⟨encode_incReg r, completes_stepReg (exec_incReg r s) (inc8_toNat _)⟩,
    ⟨rfl, completes_stepHl (exec_incMemHl s) (inc8_toNat _)⟩,
    ⟨encode_decReg r, completes_stepReg (exec_decReg r s) (dec8_toNat _)⟩,
    ⟨rfl, completes_stepHl (exec_decMemHl s) (dec8_toNat _)⟩⟩

/-! ### DAA (R199) -/

/-- The carry that DAA leaves: a subtraction keeps it, an addition's adjustment may set it. -/
def daaCarry (a : Nat) (n c : Bool) : Bool := if n = true then c else c || decide (a > 0x99)

/-- A after the adjustment by 0x60, on exact integers. -/
def daaHigh (a : Nat) (n c : Bool) : Int :=
  if daaCarry a n c = true then (if n = true then (a : Int) - 0x60 else a + 0x60) else a

/-- The adjustment by 0x06 is due, from the value after that by 0x60. -/
def daaHalf (a : Nat) (n h c : Bool) : Bool := if n = true then h else h || decide (daaHigh a n c % 16 > 9)

/-- A after both adjustments, on exact integers. -/
def daaValue (a : Nat) (n h c : Bool) : Int :=
  if daaHalf a n h c = true then (if n = true then daaHigh a n c - 6 else daaHigh a n c + 6) else daaHigh a n c

theorem daaAdjust_carry (a : Byte) (n h c : Bool) : (daaAdjust a n h c).2 = daaCarry a.toNat n c := by
  cases n <;> rfl

/-- The model adjusts an addition on natural numbers and a subtraction on integers, and narrows the same number. -/
theorem daaAdjust_value (a : Byte) (n h c : Bool) :
    (daaAdjust a n h c).1 = BitVec.ofInt 8 (daaValue a.toNat n h c) := by
  cases n
  case true => cases h <;> cases c <;> simp [daaAdjust, daaValue, daaHalf, daaHigh, daaCarry]
  case false =>
    obtain ⟨a1, ha1⟩ : ∃ a1, a1 = a.toNat + if c || decide (a.toNat > 0x99) then 0x60 else 0 := ⟨_, rfl⟩
    have hhigh : daaHigh a.toNat false c = a1 := by
      rw [daaHigh, daaCarry, ha1, if_neg Bool.false_ne_true, if_neg Bool.false_ne_true]
      split <;> rfl
    have hhalf : daaHalf a.toNat false h c = (h || decide (a1 % 16 > 0x09)) := by
      have hmod : ((a1 : Int) % 16 > 9) = (a1 % 16 > 0x09) := propext (by omega)
      rw [daaHalf, hhigh, if_neg Bool.false_ne_true]
      simp only [hmod]
    have hvalue : daaValue a.toNat false h c = (a1 + if h || decide (a1 % 16 > 0x09) then 0x06 else 0 : Nat) := by
      rw [daaValue, hhalf, hhigh, if_neg Bool.false_ne_true]
      split <;> rfl
    rw [hvalue, BitVec.ofInt_natCast, ha1]
    rfl

/-- Settles O40: `daaAdjust` is the adjustment on exact integers, narrowed. -/
theorem decimalAdjust_effect : Obligations.DecimalAdjust := by
  unfold Obligations.DecimalAdjust
  intro s a carry a1 half a2
  have hvalue : (daaAdjust s.regs.a s.fn s.fh s.fc).1 = BitVec.ofInt 8 a2 := daaAdjust_value _ _ _ _
  have hcarry : (daaAdjust s.regs.a s.fn s.fh s.fc).2 = carry := daaAdjust_carry _ _ _ _
  have he : exec .daa s = finish 1
      ((((s.setReg .a (BitVec.ofInt 8 a2)).setFz (decide (a2 % 256 = 0))).setFh false).setFc carry) := by
    rw [exec_daa, decimalAdjust, hvalue, hcarry, ofInt8_beq_zero]
  exact ⟨rfl, completes_finish he ⟨ofInt8_toNat a2, flagsBecome_of rfl (by simp),
    regsKeptBut_of rfl (by simpa using s.setReg_reg_of_notMem .a (BitVec.ofInt 8 a2)),
    by simp [ControlKept, LatchesKept], memoryKept_of (by simp) (by simp) (by simp)⟩⟩

/-! ### CPL, SCF and CCF (R200 to R202) -/

theorem xor_ff_toNat (v : Byte) : (v ^^^ 0xFF).toNat = 255 - v.toNat := by
  have h : v ^^^ 0xFF = ~~~v := BitVec.xor_allOnes
  rw [h, BitVec.toNat_not]

theorem completes_complementA (s : State) :
    Completes .cpl s 1 fun t => t.regs.a.toNat = 255 - s.regs.a.toNat ∧ FlagsBecome s.fz true true s.fc s t ∧
      RegsKeptBut [.a] s t ∧ ControlKept s t ∧ MemoryKept s t :=
  completes_finish (exec_cpl s) ⟨xor_ff_toNat s.regs.a, flagsBecome_of rfl (by simp),
    regsKeptBut_of rfl (by simpa using s.setReg_reg_of_notMem .a (s.regs.a ^^^ 0xFF)),
    by simp [ControlKept, LatchesKept], memoryKept_of (by simp) (by simp) (by simp)⟩

/-- SCF and CCF: N and H cleared and the carry flag written. -/
theorem completes_writeCarry {i : Instr} {s : State} {c : Bool}
    (he : exec i s = finish 1 (((s.setFn false).setFh false).setFc c)) :
    Completes i s 1 fun t => FlagsBecome s.fz false false c s t ∧ RegsKeptBut [] s t ∧ ControlKept s t ∧
      MemoryKept s t :=
  completes_finish he ⟨flagsBecome_of rfl (by simp), regsKeptBut_of rfl (by simp),
    by simp [ControlKept, LatchesKept], memoryKept_of (by simp) (by simp) (by simp)⟩

/-- Settles O42: CPL writes A and two flags, SCF and CCF write three flags and no register. -/
theorem complementAndCarry : Obligations.ComplementAndCarry := by
  unfold Obligations.ComplementAndCarry
  intro s
  exact ⟨⟨rfl, completes_complementA s⟩, ⟨rfl, completes_writeCarry (exec_scf s)⟩,
    ⟨rfl, completes_writeCarry (exec_ccf s)⟩⟩

end Sys2Proof.Machine
end

section
/-! 16-bit arithmetic (42_alu16.md R210 to R214): a pair or SP moved by one, a pair added to HL, and a signed byte added
to SP. -/

namespace Sys2Proof.Machine

/-! ### INC rr and DEC rr (R211, R212) -/

theorem encode_incPair (p : Pair) : encode (.incPair p) = [BitVec.ofNat 8 (0x03 + 16 * p.field)] := by
  cases p <;> rfl

theorem encode_decPair (p : Pair) : encode (.decPair p) = [BitVec.ofNat 8 (0x0B + 16 * p.field)] := by
  cases p <;> rfl

theorem dec16_toNat (w : Word) : (w - 1).toNat = (w.toNat + 65535) % 65536 := by
  rw [BitVec.toNat_sub, Nat.add_comm]
  rfl

/-- A transfer into a pair, its result said as a number. -/
theorem completes_stepPair {i : Instr} {s : State} {p : Pair} {w : Word} {k : Nat}
    (he : exec i s = finish 2 (s.setPair p w)) (hw : w.toNat = k) :
    Completes i s 2 fun t => (t.pair p).toNat = k ∧ RegsKeptBut (pairRegs p) s t ∧
      (p ≠ .sp → t.regs.sp = s.regs.sp) ∧ t.regs.f = s.regs.f ∧ t.regs.pc = s.regs.pc ∧ LatchesKept s t ∧
      MemoryKept s t :=
  (completes_setPair he).imp fun _ => And.imp_left fun hpair => (congrArg BitVec.toNat hpair).trans hw

/-! ### ADD HL,rr (R210) -/

theorem encode_addHl (p : Pair) : encode (.addHl p) = [BitVec.ofNat 8 (0x09 + 16 * p.field)] := by
  cases p <;> rfl

theorem add16_toNat (a b : Word) : (add16 a b).toNat = (a.toNat + b.toNat) % 65536 := BitVec.toNat_ofNat _ 16

theorem completes_addHl (p : Pair) (s : State) :
    Completes (.addHl p) s 2 fun t => t.hl.toNat = (s.hl.toNat + (s.pair p).toNat) % 65536 ∧
      FlagsBecome s.fz false (add16Half s.hl (s.pair p)) (add16Carry s.hl (s.pair p)) s t ∧
      RegsKeptBut [.h, .l] s t ∧ ControlKept s t ∧ MemoryKept s t := by
  have hsum : (s.setHl (add16 s.hl (s.pair p))).hl.toNat = (s.hl.toNat + (s.pair p).toNat) % 65536 := by
    rw [State.setHl_hl, add16_toNat]
  exact completes_finish (exec_addHl p s) ⟨hsum, flagsBecome_of rfl (by simp),
    regsKeptBut_of rfl (by simpa using s.setHl_reg_of_notMem (add16 s.hl (s.pair p))),
    by simp [ControlKept, LatchesKept], memoryKept_of (by simp) (by simp) (by simp)⟩

/-- Settles O43: INC rr and DEC rr write one pair, ADD HL,rr writes HL and three flags. -/
theorem pairArithmetic : Obligations.PairArithmetic := by
  unfold Obligations.PairArithmetic
  intro s p writesPair
  exact ⟨⟨encode_addHl p, completes_addHl p s⟩,
    ⟨encode_incPair p, completes_stepPair (exec_incPair p s) (BitVec.toNat_add _ 1)⟩,
    ⟨encode_decPair p, completes_stepPair (exec_decPair p s) (dec16_toNat _)⟩⟩

/-! ### ADD SP,e8 and LD HL,SP+e8 (R213, R214) -/

/-- Adding `sext8 e` modulo 65536 adds the signed value of `e` (10_state.md R11). -/
theorem add_sext8_toNat (w : Word) (e : Byte) :
    ((w + sext8 e).toNat : Int) = ((w.toNat : Int) + e.toInt) % 65536 := by
  have hsext : (sext8 e).toNat = (e.toInt % 65536).toNat := BitVec.toNat_ofInt e.toInt
  rw [BitVec.toNat_add, hsext]
  omega

theorem completes_addSpE8 (e : Byte) (s : State) :
    Completes (.addSpE8 e) s 4 fun t => (t.regs.sp.toNat : Int) = ((s.regs.sp.toNat : Int) + e.toInt) % 65536 ∧
      FlagsBecome false false (spPlusHalf s.regs.sp e) (spPlusCarry s.regs.sp e) s t ∧ RegsKeptBut [] s t ∧
      t.regs.pc = s.regs.pc ∧ LatchesKept s t ∧ MemoryKept s t := by
  have he : exec (.addSpE8 e) s = finish 4 ((s.setSp (spPlus s.regs.sp e)).setFlags false false
      (spPlusHalf s.regs.sp e) (spPlusCarry s.regs.sp e)) := exec_addSpE8 e s
  exact completes_finish he ⟨add_sext8_toNat s.regs.sp e, flagsBecome_of rfl (by simp), regsKeptBut_of rfl (by simp),
    by simp, by simp [LatchesKept], memoryKept_of (by simp) (by simp) (by simp)⟩

theorem completes_ldHlSpE8 (e : Byte) (s : State) :
    Completes (.ldHlSpE8 e) s 3 fun t => (t.hl.toNat : Int) = ((s.regs.sp.toNat : Int) + e.toInt) % 65536 ∧
      FlagsBecome false false (spPlusHalf s.regs.sp e) (spPlusCarry s.regs.sp e) s t ∧ RegsKeptBut [.h, .l] s t ∧
      ControlKept s t ∧ MemoryKept s t := by
  have he : exec (.ldHlSpE8 e) s = finish 3 ((s.setHl (spPlus s.regs.sp e)).setFlags false false
      (spPlusHalf s.regs.sp e) (spPlusCarry s.regs.sp e)) := exec_ldHlSpE8 e s
  have hsum : ((s.setHl (spPlus s.regs.sp e)).hl.toNat : Int) = ((s.regs.sp.toNat : Int) + e.toInt) % 65536 := by
    rw [State.setHl_hl]
    exact add_sext8_toNat s.regs.sp e
  exact completes_finish he ⟨hsum, flagsBecome_of rfl (by simp),
    regsKeptBut_of rfl (by simpa using s.setHl_reg_of_notMem (spPlus s.regs.sp e)),
    by simp [ControlKept, LatchesKept], memoryKept_of (by simp) (by simp) (by simp)⟩

/-- Settles O44: both forms write the signed sum and the unsigned carries of the low bytes, to SP or to HL. -/
theorem spSigned : Obligations.SpSigned := by
  unfold Obligations.SpSigned
  intro s e sp sum flags
  exact ⟨⟨rfl, completes_addSpE8 e s⟩, rfl, completes_ldHlSpE8 e s⟩

end Sys2Proof.Machine
end

section
/-! Rotates, shifts and bit operations (43_bitops.md R219 to R245). A rotate or shift has one result and one carry
whatever form its operand has, said once as numbers; RES and SET are one bit put. -/

namespace Sys2Proof.Machine

/-! ### The result and the carry as numbers (R219) -/

theorem bitByte_toNat (b : Bool) : (bitByte b).toNat = b.toNat := by
  cases b <;> rfl

theorem getLsbD_zero_toNat (v : Byte) : (v.getLsbD 0).toNat = v.toNat % 2 :=
  (Nat.toNat_testBit v.toNat 0).trans (by rw [pow_zero, Nat.div_one])

theorem getLsbD_seven_toNat (v : Byte) : (v.getLsbD 7).toNat = v.toNat / 128 := by
  have hbit : (v.getLsbD 7).toNat = v.toNat / 2 ^ 7 % 2 := Nat.toNat_testBit v.toNat 7
  omega

theorem shiftLeft_one_toNat (v : Byte) : (v <<< 1).toNat = 2 * v.toNat % 256 := by
  rw [BitVec.toNat_shiftLeft, Nat.shiftLeft_eq, pow_one, Nat.mul_comm]

theorem shiftRight_one_toNat (v : Byte) : (v >>> 1).toNat = v.toNat / 2 := by
  rw [BitVec.toNat_ushiftRight, Nat.shiftRight_eq_div_pow, pow_one]

/-- A shift to the left leaves bit 0 free for `c`. -/
theorem shiftLeft_or_bitByte_toNat (v : Byte) (c : Bool) :
    (v <<< 1 ||| bitByte c).toNat = (2 * v.toNat + c.toNat) % 256 := by
  have hc : c.toNat < 2 ^ 1 := c.toNat_lt
  have hshift : (v <<< 1).toNat = 2 ^ 1 * (v.toNat % 128) := by
    rw [shiftLeft_one_toNat]
    omega
  rw [BitVec.toNat_or, hshift, bitByte_toNat, ← Nat.two_pow_add_eq_or_of_lt hc]
  omega

/-- A shift to the right leaves bit 7 free for `c`. -/
theorem shiftRight_or_bitByte_toNat (v : Byte) (c : Bool) :
    (v >>> 1 ||| bitByte c <<< 7).toNat = v.toNat / 2 + 128 * c.toNat := by
  have htop : (bitByte c <<< 7).toNat = 2 ^ 7 * c.toNat := by
    cases c <;> rfl
  have hlow : v.toNat / 2 < 2 ^ 7 := by omega
  rw [BitVec.toNat_or, shiftRight_one_toNat, htop, Nat.or_comm, ← Nat.two_pow_add_eq_or_of_lt hlow, Nat.add_comm]

/-- SRA brings the sign bit in again. -/
theorem and_signMask_eq (v : Byte) : v &&& (0x80 : Byte) = bitByte (v.getLsbD 7) <<< 7 := by
  revert v
  decide

theorem swap_toNat (v : Byte) : ((v &&& 0x0F) <<< 4 ||| v >>> 4).toNat = 16 * (v.toNat % 16) + v.toNat / 16 := by
  have hlow : (v &&& 0x0F).toNat = v.toNat % 16 := toNat_and_of_lowMask 4 rfl
  have hup : ((v &&& 0x0F) <<< 4).toNat = 2 ^ 4 * (v.toNat % 16) := by
    rw [BitVec.toNat_shiftLeft, hlow, Nat.shiftLeft_eq]
    omega
  have hdown : (v >>> 4).toNat = v.toNat / 16 := by
    rw [BitVec.toNat_ushiftRight, Nat.shiftRight_eq_div_pow]
  have hlt : v.toNat / 16 < 2 ^ 4 := by omega
  rw [BitVec.toNat_or, hup, hdown, ← Nat.two_pow_add_eq_or_of_lt hlt]

theorem rotResult_toNat (op : RotOp) (v : Byte) (c : Bool) :
    (rotResult op v c).toNat = rotValue op v.toNat c.toNat := by
  cases op
  case rlc => rw [rotResult, shiftLeft_or_bitByte_toNat, getLsbD_seven_toNat, rotValue]
  case rrc => rw [rotResult, shiftRight_or_bitByte_toNat, getLsbD_zero_toNat, rotValue]
  case rl => exact shiftLeft_or_bitByte_toNat v c
  case rr => exact shiftRight_or_bitByte_toNat v c
  case sla => exact shiftLeft_one_toNat v
  case sra => rw [rotResult, and_signMask_eq, shiftRight_or_bitByte_toNat, getLsbD_seven_toNat, rotValue]
  case swap => exact swap_toNat v
  case srl => exact shiftRight_one_toNat v

theorem getLsbD_zero_eq_decide (v : Byte) : v.getLsbD 0 = decide (v.toNat % 2 = 1) := Nat.testBit_zero v.toNat

theorem getLsbD_seven_eq_decide (v : Byte) : v.getLsbD 7 = decide (v.toNat / 128 = 1) := by
  rw [← getLsbD_seven_toNat]
  cases v.getLsbD 7 <;> rfl

theorem rotCarry_eq_rotBitOut (op : RotOp) (v : Byte) : rotCarry op v = rotBitOut op v.toNat := by
  cases op
  case rlc | rl | sla => exact getLsbD_seven_eq_decide v
  case rrc | rr | sra | srl => exact getLsbD_zero_eq_decide v
  case swap => rfl

/-! ### The accumulator rotates (R220 to R223) -/

/-- What a rotate of A does: flags 0 0 0 C, and nothing but A and the flags changes. -/
def RotatesA (op : RotOp) (s t : State) : Prop :=
  t.regs.a.toNat = rotValue op s.regs.a.toNat s.fc.toNat ∧
    FlagsBecome false false false (rotBitOut op s.regs.a.toNat) s t ∧ RegsKeptBut [.a] s t ∧ ControlKept s t ∧
    MemoryKept s t

theorem completes_rotA {i : Instr} {op : RotOp} {s : State} (he : exec i s = rotA op s) :
    Completes i s 1 (RotatesA op s) := by
  rw [rotA, rotCarry_eq_rotBitOut] at he
  exact completes_finish he ⟨rotResult_toNat op s.regs.a s.fc, flagsBecome_of rfl (by simp),
    regsKeptBut_of rfl (by simpa using s.setReg_reg_of_notMem .a (rotResult op s.regs.a s.fc)),
    by simp [ControlKept, LatchesKept], memoryKept_of (by simp) (by simp) (by simp)⟩

/-- Settles O45: the four instructions are `rotA`, whose result and carry are those of `rotResult` and `rotCarry`. -/
theorem rotateA : Obligations.RotateA := by
  unfold Obligations.RotateA
  intro s rotates
  exact ⟨⟨rfl, completes_rotA (exec_rlca s)⟩, ⟨rfl, completes_rotA (exec_rrca s)⟩,
    ⟨rfl, completes_rotA (exec_rla s)⟩, ⟨rfl, completes_rotA (exec_rra s)⟩⟩

/-! ### The prefixed rotates and shifts (R224 to R239) -/

theorem encode_rotReg (op : RotOp) (r : Reg8) :
    encode (.rotReg op r) = [0xCB, BitVec.ofNat 8 (8 * op.field + r.field)] := by
  cases op <;> cases r <;> rfl

theorem encode_rotHl (op : RotOp) : encode (.rotHl op) = [0xCB, BitVec.ofNat 8 (8 * op.field + 6)] := by
  cases op <;> rfl

theorem byte_beq_zero_toNat (v : Byte) : (v == 0) = decide (v.toNat = 0) := by
  rw [byte_beq_zero, decide_eq_decide]
  exact Int.natCast_eq_zero

/-- `rotFlags` in a state that still has F of `s`, said of the byte `res` that is written. -/
theorem rotatesTo_of_rotFlags {op : RotOp} {v res : Byte} {s t u : State}
    (ht : t.regs = (rotFlags op v s.fc u).regs) (hu : u.regs.f = s.regs.f) (hres : res = rotResult op v s.fc) :
    RotatesTo op v res s t := by
  subst hres
  refine ⟨rotResult_toNat op v s.fc, ?_⟩
  rw [← byte_beq_zero_toNat, ← rotCarry_eq_rotBitOut]
  exact flagsBecome_of ht (by simp [rotFlags, hu])

theorem completes_rotReg (op : RotOp) (r : Reg8) (s : State) :
    Completes (.rotReg op r) s 2 fun t => RotatesTo op (s.reg r) (t.reg r) s t ∧ RegsKeptBut [r] s t ∧
      ControlKept s t ∧ MemoryKept s t := by
  have hreg : (rotFlags op (s.reg r) s.fc (s.setReg r (rotResult op (s.reg r) s.fc))).reg r =
      rotResult op (s.reg r) s.fc := by simp [rotFlags]
  have hkept : ∀ q, q ∉ [r] →
      (rotFlags op (s.reg r) s.fc (s.setReg r (rotResult op (s.reg r) s.fc))).reg q = s.reg q := fun q hq =>
    (State.setFlags_reg _ _ _ _ _ q).trans (s.setReg_reg_of_notMem r _ q hq)
  exact completes_finish (exec_rotReg op r s)
    ⟨rotatesTo_of_rotFlags rfl (s.setReg_f r _) ((State.reg_of_regs rfl r).trans hreg), regsKeptBut_of rfl hkept,
    by simp [ControlKept, LatchesKept, rotFlags],
    memoryKept_of (by simp [rotFlags]) (by simp [rotFlags]) (by simp [rotFlags])⟩

theorem completes_rotHl (op : RotOp) (s : State) :
    Completes (.rotHl op) s 4 fun t => ∃ res, RotatesTo op (s.peek s.hl) res s t ∧ RegsKeptBut [] s t ∧
      ControlKept s t ∧ Stores [(s.hl, res)] (s.afterRead s.hl) t :=
  completes_finish (exec_rotHl op s) ⟨_, rotatesTo_of_rotFlags rfl (by simp) rfl,
    regsKeptBut_of rfl (by simp [rotFlags]), by simp [ControlKept, LatchesKept, rotFlags],
    stores_of [(s.hl, rotResult op (s.peek s.hl) s.fc)] rfl rfl rfl⟩

/-- Encoding, cost and effect of a prefixed rotate or shift of `r` and of (HL). -/
def RotForms (op : RotOp) (s : State) (r : Reg8) : Prop :=
  (encode (.rotReg op r) = [0xCB, BitVec.ofNat 8 (8 * op.field + r.field)] ∧
    Completes (.rotReg op r) s 2 fun t => RotatesTo op (s.reg r) (t.reg r) s t ∧ RegsKeptBut [r] s t ∧
      ControlKept s t ∧ MemoryKept s t) ∧
  (encode (.rotHl op) = [0xCB, BitVec.ofNat 8 (8 * op.field + 6)] ∧
    Completes (.rotHl op) s 4 fun t => ∃ res, RotatesTo op (s.peek s.hl) res s t ∧ RegsKeptBut [] s t ∧
      ControlKept s t ∧ Stores [(s.hl, res)] (s.afterRead s.hl) t)

theorem rotForms (op : RotOp) (s : State) (r : Reg8) : RotForms op s r :=
  ⟨⟨encode_rotReg op r, completes_rotReg op r s⟩, encode_rotHl op, completes_rotHl op s⟩

/-- Settles O46: the two forms of each of the eight rotates and shifts have one effect, here for the four rotates. -/
theorem prefixedRotates : Obligations.PrefixedRotates := by
  unfold Obligations.PrefixedRotates
  intro s op r _
  exact rotForms op s r

/-- Settles O47: the two forms of each of the eight rotates and shifts have one effect, here for the four shifts. -/
theorem prefixedShifts : Obligations.PrefixedShifts := by
  unfold Obligations.PrefixedShifts
  intro s op r _
  exact rotForms op s r

/-! ### BIT (R240, R241) -/

theorem encode_bitReg (b : BitIndex) (r : Reg8) :
    encode (.bitReg b r) = [0xCB, BitVec.ofNat 8 (0x40 + 8 * b.field + r.field)] := by
  cases b <;> cases r <;> rfl

theorem encode_bitHl (b : BitIndex) : encode (.bitHl b) = [0xCB, BitVec.ofNat 8 (0x46 + 8 * b.field)] := by
  cases b <;> rfl

/-- What BIT of a byte `v` does to the registers: Z, N and H are written and nothing else. -/
def TestsBit (b : BitIndex) (v : Byte) (s t : State) : Prop :=
  FlagsBecome (!v.getLsbD (bitNumber b)) false true s.fc s t ∧ RegsKeptBut [] s t ∧ ControlKept s t

theorem testsBit_of_bitFlags {b : BitIndex} {v : Byte} {s t u : State} (ht : t.regs = (bitFlags b v u).regs)
    (hu : u.regs = s.regs) : TestsBit b v s t := by
  have hc : u.fc = s.fc := by rw [State.fc, hu, State.fc]
  exact ⟨flagsBecome_of ht (by simp [bitFlags, hc, hu]),
    regsKeptBut_of ht (by simpa [bitFlags] using State.reg_of_regs hu),
    controlKept_of_regs ht (by simp [ControlKept, LatchesKept, bitFlags, hu])⟩

theorem completes_bitReg (b : BitIndex) (r : Reg8) (s : State) :
    Completes (.bitReg b r) s 2 fun t => TestsBit b (s.reg r) s t ∧ MemoryKept s t :=
  completes_finish (exec_bitReg b r s) ⟨testsBit_of_bitFlags rfl rfl, memoryKept_of rfl rfl rfl⟩

theorem completes_bitHl (b : BitIndex) (s : State) :
    Completes (.bitHl b) s 3 fun t => TestsBit b (s.peek s.hl) s t ∧ Reads [s.hl] s t :=
  completes_finish (exec_bitHl b s) ⟨testsBit_of_bitFlags rfl (s.afterRead_regs s.hl),
    reads_of [s.hl] (s.afterRead_bus s.hl) (s.afterRead_display s.hl) rfl⟩

/-! ### RES and SET (R242 to R245) -/

theorem encode_resReg (b : BitIndex) (r : Reg8) :
    encode (.resReg b r) = [0xCB, BitVec.ofNat 8 (0x80 + 8 * b.field + r.field)] := by
  cases b <;> cases r <;> rfl

theorem encode_resHl (b : BitIndex) : encode (.resHl b) = [0xCB, BitVec.ofNat 8 (0x86 + 8 * b.field)] := by
  cases b <;> rfl

theorem encode_setReg (b : BitIndex) (r : Reg8) :
    encode (.setReg b r) = [0xCB, BitVec.ofNat 8 (0xC0 + 8 * b.field + r.field)] := by
  cases b <;> cases r <;> rfl

theorem encode_setHl (b : BitIndex) : encode (.setHl b) = [0xCB, BitVec.ofNat 8 (0xC6 + 8 * b.field)] := by
  cases b <;> rfl

theorem bitNumber_lt (b : BitIndex) : bitNumber b < 8 := by
  cases b <;> decide

theorem bitPut_putBit (b : BitIndex) (x : Bool) (v : Byte) : BitPut b x v (putBit v (bitNumber b) x) := by
  intro i hi
  split
  · next h => rw [h, putBit_getLsbD_same v _ x (bitNumber_lt b)]
  · next h => exact putBit_getLsbD_other v _ i x hi h

/-- `RES b,r` and `SET b,r`: a transfer of the register with one bit put. -/
theorem completes_putReg {i : Instr} {b : BitIndex} {x : Bool} {r : Reg8} {s : State}
    (he : exec i s = finish 2 (s.setReg r (putBit (s.reg r) (bitNumber b) x))) :
    Completes i s 2 fun t => BitPut b x (s.reg r) (t.reg r) ∧ RegsKeptBut [r] s t ∧ t.regs.f = s.regs.f ∧
      ControlKept s t ∧ MemoryKept s t :=
  (completes_setReg he).imp fun _ => And.imp_left fun hreg => hreg ▸ bitPut_putBit b x (s.reg r)

/-- `RES b,(HL)` and `SET b,(HL)`: the byte read, and the byte with one bit put stored there. -/
theorem completes_putHl {i : Instr} {b : BitIndex} {x : Bool} {s : State}
    (he : exec i s = finish 4 ((s.afterRead s.hl).store s.hl (putBit (s.peek s.hl) (bitNumber b) x))) :
    Completes i s 4 fun t => ∃ res, BitPut b x (s.peek s.hl) res ∧ RegsKeptBut [] s t ∧ t.regs.f = s.regs.f ∧
      ControlKept s t ∧ Stores [(s.hl, res)] (s.afterRead s.hl) t :=
  completes_finish he ⟨_, bitPut_putBit b x (s.peek s.hl), regsKeptBut_of rfl (by simp), by simp,
    by simp [ControlKept, LatchesKept], stores_of [(s.hl, putBit (s.peek s.hl) (bitNumber b) x)] rfl rfl rfl⟩

/-- Settles O48: BIT writes three flags, RES and SET put one bit to 0 and to 1, of a register or of the byte at HL. -/
theorem bitOperations : Obligations.BitOperations := by
  unfold Obligations.BitOperations
  intro s b r tests
  exact ⟨⟨encode_bitReg b r, completes_bitReg b r s⟩, ⟨encode_bitHl b, completes_bitHl b s⟩,
    ⟨encode_resReg b r, completes_putReg (exec_resReg b r s)⟩, ⟨encode_resHl b, completes_putHl (exec_resHl b s)⟩,
    ⟨encode_setReg b r, completes_putReg (exec_setReg b r s)⟩, ⟨encode_setHl b, completes_putHl (exec_setHl b s)⟩⟩

end Sys2Proof.Machine
end

section
/-! Control transfer (44_control.md R250 to R261). A transfer writes PC, from an operand, with a push or from a pop; each of
the three effects is said once, whatever instruction has it and whether that instruction is conditional. -/

namespace Sys2Proof.Machine

/-! ### The condition (R250) -/

theorem State.holds_iff_condHolds (s : State) (cc : Cond) : s.holds cc = true ↔ CondHolds s cc := by
  cases cc <;> simp [State.holds, CondHolds]

theorem exec_of_condHolds {i : Instr} {s : State} {cc : Cond} {o o' : Out}
    (he : exec i s = if s.holds cc then o else o') (hc : CondHolds s cc) : exec i s = o :=
  he.trans (if_pos ((s.holds_iff_condHolds cc).2 hc))

theorem exec_of_not_condHolds {i : Instr} {s : State} {cc : Cond} {o o' : Out}
    (he : exec i s = if s.holds cc then o else o') (hc : ¬ CondHolds s cc) : exec i s = o' :=
  he.trans (if_neg (mt (s.holds_iff_condHolds cc).1 hc))

/-- What a call or a return not taken does: it keeps every register and all of memory. -/
def KeepsAll (s t : State) : Prop :=
  RegsKeptBut [] s t ∧ t.regs.f = s.regs.f ∧ ControlKept s t ∧ MemoryKept s t

theorem completes_keepsAll {i : Instr} {s : State} {n : Nat} (he : exec i s = finish n s) :
    Completes i s n (KeepsAll s) :=
  completes_finish he ⟨regsKeptBut_of rfl fun _ _ => rfl, rfl, ⟨rfl, rfl, rfl, rfl⟩, memoryKept_of rfl rfl rfl⟩

/-! ### JP and JR (R251 to R255) -/

theorem encode_jpCond (cc : Cond) (a : Word) :
    encode (.jpCond cc a) = [BitVec.ofNat 8 (0xC2 + 8 * cc.field), loByte a, hiByte a] := by
  cases cc <;> rfl

theorem encode_jrCond (cc : Cond) (e : Byte) :
    encode (.jrCond cc e) = [BitVec.ofNat 8 (0x20 + 8 * cc.field), e] := by
  cases cc <;> rfl

/-- What a jump does: PC is `pc`, and nothing else of the block changes. -/
def JumpsTo (pc : Int) (s t : State) : Prop :=
  (t.regs.pc.toNat : Int) = pc ∧ RegsKeptBut [] s t ∧ t.regs.f = s.regs.f ∧ t.regs.sp = s.regs.sp ∧
    LatchesKept s t ∧ MemoryKept s t

theorem completes_jump {i : Instr} {s : State} {n : Nat} {w : Word} {pc : Int}
    (he : exec i s = finish n (s.setPc w)) (hw : (w.toNat : Int) = pc) : Completes i s n (JumpsTo pc s) :=
  completes_finish he ⟨hw, regsKeptBut_of rfl fun q _ => s.setPc_reg w q, rfl, rfl, ⟨rfl, rfl⟩,
    memoryKept_of rfl rfl rfl⟩

/-- Settles O49: a jump taken writes PC, and a jump not taken is one to the address PC already holds. -/
theorem jumps : Obligations.Jumps := by
  unfold Obligations.Jumps
  intro s cc a e goes here there
  have hrel : ((s.regs.pc + sext8 e).toNat : Int) = there := add_sext8_toNat s.regs.pc e
  have hjp := exec_jpCond cc a s
  have hjr := exec_jrCond cc e s
  exact ⟨⟨rfl, completes_jump (exec_jpA16 a s) rfl⟩,
    ⟨encode_jpCond cc a, fun hc => completes_jump (exec_of_condHolds hjp hc) rfl,
      fun hc => completes_jump (w := s.regs.pc) (exec_of_not_condHolds hjp hc) rfl⟩,
    ⟨rfl, completes_jump (exec_jpHl s) rfl⟩,
    ⟨rfl, completes_jump (exec_jrE8 e s) hrel⟩,
    ⟨encode_jrCond cc e, fun hc => completes_jump (exec_of_condHolds hjr hc) hrel,
      fun hc => completes_jump (w := s.regs.pc) (exec_of_not_condHolds hjr hc) rfl⟩⟩

/-! ### CALL and RST (R256, R257, R261) -/

theorem encode_callCond (cc : Cond) (a : Word) :
    encode (.callCond cc a) = [BitVec.ofNat 8 (0xC4 + 8 * cc.field), loByte a, hiByte a] := by
  cases cc <;> rfl

theorem encode_rst (v : Vec) : encode (.rst v) = [BitVec.ofNat 8 (0xC7 + 8 * v.field)] := by
  cases v <;> rfl

theorem vecAddress_eq (v : Vec) : vecAddress v = BitVec.ofNat 16 (8 * v.field) := by
  cases v <;> rfl

/-- What a call taken does: the address of the next instruction is pushed, high byte first, and PC is the target. -/
def EntersSubroutine (pc : Word) (s t : State) : Prop :=
  t.regs.pc = pc ∧ t.regs.sp = s.regs.sp - 2 ∧ RegsKeptBut [] s t ∧ t.regs.f = s.regs.f ∧ LatchesKept s t ∧
    Stores [(s.regs.sp - 1, hiByte s.regs.pc), (s.regs.sp - 2, loByte s.regs.pc)] s t

theorem State.enterSubroutine_regs (s : State) (pc : Word) :
    (s.enterSubroutine pc).regs = { s.regs with pc := pc, sp := s.regs.sp - 2 } := by
  have hsp : s.regs.sp - 1 - 1 = s.regs.sp - 2 := BitVec.sub_sub s.regs.sp 1 1
  simp only [State.enterSubroutine, State.push16_eq, State.setPc, State.store_regs, State.setSp, hsp]

theorem completes_call {i : Instr} {s : State} {n : Nat} {pc : Word}
    (he : exec i s = finish n (s.enterSubroutine pc)) : Completes i s n (EntersSubroutine pc s) := by
  have hregs := s.enterSubroutine_regs pc
  have hkept : ∀ q, (s.enterSubroutine pc).reg q = s.reg q := fun q => by simp [State.enterSubroutine]
  exact completes_finish he ⟨by simp [hregs], by simp [hregs],
    regsKeptBut_of (u := s.enterSubroutine pc) rfl fun q _ => hkept q, by simp [hregs], by simp [LatchesKept, hregs],
    push16_stores s _ (by simp [State.enterSubroutine]) (by simp [State.enterSubroutine])
      (by simp [State.enterSubroutine])⟩

/-- Settles O50: a call taken and RST are one push of PC and one write of it; a call not taken keeps all. -/
theorem calls : Obligations.Calls := by
  unfold Obligations.Calls
  intro s cc a v enters
  have hcall := exec_callCond cc a s
  have hrst : exec (.rst v) s = finish 4 (s.enterSubroutine (BitVec.ofNat 16 (8 * v.field))) := by
    rw [exec_rst, restart, vecAddress_eq]
  exact ⟨⟨rfl, completes_call (exec_callA16 a s)⟩,
    ⟨encode_callCond cc a, fun hc => completes_call (exec_of_condHolds hcall hc),
      fun hc => completes_keepsAll (exec_of_not_condHolds hcall hc)⟩,
    ⟨encode_rst v, completes_call hrst⟩⟩

/-! ### RET and RETI (R258 to R260) -/

theorem encode_retCond (cc : Cond) : encode (.retCond cc) = [BitVec.ofNat 8 (0xC0 + 8 * cc.field)] := by
  cases cc <;> rfl

/-- What a return taken does: PC is the word popped, low byte first, SP moves past it, and IME is `ime`. -/
def LeavesSubroutine (ime : Bool) (s t : State) : Prop :=
  t.regs.pc = mkWord ((s.afterRead s.regs.sp).peek (s.regs.sp + 1)) (s.peek s.regs.sp) ∧
    t.regs.sp = s.regs.sp + 2 ∧ RegsKeptBut [] s t ∧ t.regs.f = s.regs.f ∧ t.regs.ime = ime ∧
    t.regs.halted = s.regs.halted ∧ Reads [s.regs.sp, s.regs.sp + 1] s t

theorem State.leaveSubroutine_regs (s : State) :
    s.leaveSubroutine.regs = { s.regs with pc := s.pop16, sp := s.regs.sp + 2 } := by
  simp only [State.leaveSubroutine, State.afterPop16_eq, State.setPc, State.setSp, State.afterRead_regs]

theorem State.leaveSubroutine_reads (s : State) : Reads [s.regs.sp, s.regs.sp + 1] s s.leaveSubroutine :=
  afterPop16_reads s (by simp [State.leaveSubroutine]) (by simp [State.leaveSubroutine])
    (by simp [State.leaveSubroutine])

theorem State.reg_writeIme (s : State) (b : Bool) (q : Reg8) : State.reg { s with regs.ime := b } q = s.reg q := by
  cases q <;> rfl

/-- A return with IME written, as RETI does. -/
theorem completes_returnIme {i : Instr} {s : State} {n : Nat} {b : Bool}
    (he : exec i s = finish n { s.leaveSubroutine with regs.ime := b }) :
    Completes i s n (LeavesSubroutine b s) := by
  have hpc : s.pop16 = mkWord ((s.afterRead s.regs.sp).peek (s.regs.sp + 1)) (s.peek s.regs.sp) := s.pop16_eq
  have hregs := s.leaveSubroutine_regs
  have hkept : ∀ q, s.leaveSubroutine.reg q = s.reg q := fun q => by simp [State.leaveSubroutine]
  have hreads := s.leaveSubroutine_reads
  generalize s.leaveSubroutine = u at he hregs hkept hreads
  obtain ⟨hbus, hdisplay, hio, -⟩ := hreads
  exact completes_finish he ⟨by simp [hregs, hpc], by simp [hregs],
    regsKeptBut_of rfl fun q _ => (u.reg_writeIme b q).trans (hkept q), by simp [hregs], rfl, by simp [hregs],
    reads_of _ hbus hdisplay hio⟩

/-- RET writes no IME, so it leaves the one it finds. -/
theorem completes_return {i : Instr} {s : State} {n : Nat} (he : exec i s = finish n s.leaveSubroutine) :
    Completes i s n (LeavesSubroutine s.regs.ime s) := by
  have hime : s.leaveSubroutine.regs.ime = s.regs.ime := by rw [s.leaveSubroutine_regs]
  have hself : ∀ u : State, u = { u with regs.ime := u.regs.ime } := fun _ => rfl
  rw [← hime]
  exact completes_returnIme (he.trans (congrArg (finish n) (hself s.leaveSubroutine)))

/-- Settles O51: a return taken is one pop into PC, RETI with IME set as well; a return not taken keeps all. -/
theorem returns : Obligations.Returns := by
  unfold Obligations.Returns
  intro s cc leaves
  have hret := exec_retCond cc s
  exact ⟨⟨rfl, completes_return (exec_ret s)⟩,
    ⟨encode_retCond cc, fun hc => completes_return (exec_of_condHolds hret hc),
      fun hc => completes_keepsAll (exec_of_not_condHolds hret hc)⟩,
    ⟨rfl, completes_returnIme (exec_reti s)⟩⟩

end Sys2Proof.Machine
end

section
/-! Miscellaneous and system instructions (45_system.md R270 to R274). Three shared operations carry the five rows: NOP ends
a step, HALT and STOP both stop the engine (the spec's decision D6), and DI and EI both write IME, at once (its decision
D7). -/

namespace Sys2Proof.Machine

theorem noOperation_eq (s : State) : noOperation s = .next { s with outcome := some (.cycles 1) } := finish_eq 1 s

theorem stopEngine_eq (x : Byte) (s : State) :
    stopEngine x s = .next { s with regs.halted := true, outcome := some .halted } := haltEngine_eq s

theorem setIme_eq (b : Bool) (s : State) :
    setIme b s = .next { s with regs.ime := b, outcome := some (.cycles 1) } := finish_eq 1 { s with regs.ime := b }

/-- Settles O52: each of the five is one shared operation, and DI and EI differ in the value they write to IME. -/
theorem systemInstructions : Obligations.SystemInstructions := by
  unfold Obligations.SystemInstructions
  intro s x
  exact ⟨⟨rfl, (exec_nop s).trans (noOperation_eq s)⟩,
    ⟨rfl, (exec_halt s).trans (haltEngine_eq s)⟩,
    ⟨rfl, (exec_stop x s).trans (stopEngine_eq x s)⟩,
    ⟨rfl, (exec_di s).trans (setIme_eq false s)⟩,
    ⟨rfl, (exec_ei s).trans (setIme_eq true s)⟩⟩

end Sys2Proof.Machine
end

section
/-! IME is read by nothing (60_exceptions.md R286). Overwriting IME before a step overwrites IME after it and changes
nothing else: every read of the state gives the same, every write passes the new IME on, and so does each instruction but
DI, EI and RETI, which end with an IME of their own. -/

namespace Sys2Proof.Machine

/-- `s` with IME `b`. -/
def State.withIme (s : State) (b : Bool) : State := { s with regs.ime := b }

/-- The answer `o` with IME `b` in its next state. -/
def outWithIme (b : Bool) : Out → Out
  | .next t => .next (t.withIme b)
  | .fault r => .fault r
  | .refused r => .refused r

@[simp] theorem finish_withIme (n : Nat) (s : State) (b : Bool) :
    finish n (s.withIme b) = outWithIme b (finish n s) := rfl

/-! ### Reads of the state -/

section
variable (s : State) (b : Bool)

@[simp] theorem State.withIme_display : (s.withIme b).display = s.display := rfl

@[simp] theorem State.withIme_outcome : (s.withIme b).outcome = s.outcome := rfl

@[simp] theorem State.withIme_a : (s.withIme b).regs.a = s.regs.a := rfl

@[simp] theorem State.withIme_c : (s.withIme b).regs.c = s.regs.c := rfl

@[simp] theorem State.withIme_sp : (s.withIme b).regs.sp = s.regs.sp := rfl

@[simp] theorem State.withIme_pc : (s.withIme b).regs.pc = s.regs.pc := rfl

@[simp] theorem State.withIme_fn : (s.withIme b).fn = s.fn := rfl

@[simp] theorem State.withIme_fh : (s.withIme b).fh = s.fh := rfl

@[simp] theorem State.withIme_fc : (s.withIme b).fc = s.fc := rfl

@[simp] theorem State.withIme_bc : (s.withIme b).bc = s.bc := rfl

@[simp] theorem State.withIme_de : (s.withIme b).de = s.de := rfl

@[simp] theorem State.withIme_hl : (s.withIme b).hl = s.hl := rfl

@[simp] theorem State.withIme_reg (q : Reg8) : (s.withIme b).reg q = s.reg q := s.reg_writeIme b q

@[simp] theorem State.withIme_pair (p : Pair) : (s.withIme b).pair p = s.pair p := by cases p <;> rfl

@[simp] theorem State.withIme_stackPair (p : StackPair) : (s.withIme b).stackPair p = s.stackPair p := by
  cases p <;> rfl

@[simp] theorem State.withIme_holds (cc : Cond) : (s.withIme b).holds cc = s.holds cc := by cases cc <;> rfl

@[simp] theorem State.withIme_peek (a : Word) : (s.withIme b).peek a = s.peek a := rfl

/-! ### Writes of the state -/

@[simp] theorem State.withIme_setPc (w : Word) : (s.withIme b).setPc w = (s.setPc w).withIme b := rfl

@[simp] theorem State.withIme_setSp (w : Word) : (s.withIme b).setSp w = (s.setSp w).withIme b := rfl

@[simp] theorem State.withIme_setFz (x : Bool) : (s.withIme b).setFz x = (s.setFz x).withIme b := rfl

@[simp] theorem State.withIme_setFn (x : Bool) : (s.withIme b).setFn x = (s.setFn x).withIme b := rfl

@[simp] theorem State.withIme_setFh (x : Bool) : (s.withIme b).setFh x = (s.setFh x).withIme b := rfl

@[simp] theorem State.withIme_setFc (x : Bool) : (s.withIme b).setFc x = (s.setFc x).withIme b := rfl

@[simp] theorem State.withIme_setFlags (z n h c : Bool) :
    (s.withIme b).setFlags z n h c = (s.setFlags z n h c).withIme b := rfl

@[simp] theorem State.withIme_setReg (q : Reg8) (v : Byte) :
    (s.withIme b).setReg q v = (s.setReg q v).withIme b := by cases q <;> rfl

@[simp] theorem State.withIme_setHl (w : Word) : (s.withIme b).setHl w = (s.setHl w).withIme b := rfl

@[simp] theorem State.withIme_setPair (p : Pair) (w : Word) :
    (s.withIme b).setPair p w = (s.setPair p w).withIme b := by cases p <;> rfl

@[simp] theorem State.withIme_setStackPair (p : StackPair) (w : Word) :
    (s.withIme b).setStackPair p w = (s.setStackPair p w).withIme b := by cases p <;> rfl

@[simp] theorem applyAlu_withIme (op : AluOp) (v : Byte) :
    applyAlu op v (s.withIme b) = (applyAlu op v s).withIme b := by cases op <;> rfl

@[simp] theorem State.withIme_afterRead (a : Word) : (s.withIme b).afterRead a = (s.afterRead a).withIme b := by
  unfold State.afterRead
  split <;> rfl

end

/-- A state is its five parts. -/
theorem State.eq_of_parts {s t : State} (hr : t.regs = s.regs) (hb : t.bus = s.bus) (hd : t.display = s.display)
    (hh : t.ioHistory = s.ioHistory) (ho : t.outcome = s.outcome) : t = s := by
  cases s
  cases t
  congr

section
variable (s : State) (b : Bool)

/-- A store neither reads nor writes a register (10_state.md R30). -/
@[simp] theorem State.withIme_store (a : Word) (v : Byte) :
    (s.withIme b).store a v = (s.store a v).withIme b := by
  obtain ⟨hbus, hdisplay, hio⟩ := State.store_congr (s := s) (t := s.withIme b) rfl rfl rfl a v
  exact State.eq_of_parts (by simp [State.withIme]) hbus hdisplay hio (by simp)

@[simp] theorem State.withIme_storeWord (a w : Word) :
    (s.withIme b).storeWord a w = (s.storeWord a w).withIme b := by simp [State.storeWord]

@[simp] theorem State.withIme_push16 (w : Word) : (s.withIme b).push16 w = (s.push16 w).withIme b := by
  simp [State.push16, State.push8]

@[simp] theorem State.withIme_pop16 : (s.withIme b).pop16 = s.pop16 := by
  simp [State.pop16, State.afterPop8]

@[simp] theorem State.withIme_afterPop16 : (s.withIme b).afterPop16 = s.afterPop16.withIme b := by
  simp [State.afterPop16, State.afterPop8]

@[simp] theorem State.withIme_enterSubroutine (pc : Word) :
    (s.withIme b).enterSubroutine pc = (s.enterSubroutine pc).withIme b := by simp [State.enterSubroutine]

@[simp] theorem State.withIme_leaveSubroutine : (s.withIme b).leaveSubroutine = s.leaveSubroutine.withIme b := by
  simp [State.leaveSubroutine]

/-! ### Instructions -/

/-- Every row of the extended table passes IME on. -/
theorem extendedOp_withIme (op2 : Byte) : extendedOp op2 (s.withIme b) = outWithIme b (extendedOp op2 s) := by
  unfold extendedOp
  dsimp only
  split <;> simp [rotReg, rotHl, rotFlags, bitReg, bitHl, bitFlags, resReg, resHl, setReg, setHl]

/-- An instruction that finds another IME answers the same but for IME: DI, EI and RETI write theirs, every other
instruction passes on the one it finds. -/
theorem exec_withIme (i : Instr) : ∃ b', exec i (s.withIme b) = outWithIme b' (exec i s) := by
  induction i using Instr.forall_by_family
  case h_di => exact ⟨false, rfl⟩
  case h_ei => exact ⟨true, rfl⟩
  case h_reti =>
    refine ⟨true, ?_⟩
    rw [exec_reti, exec_reti, returnEnable, State.withIme_leaveSubroutine]
    rfl
  case h_nop | h_halt | h_stop => exact ⟨b, rfl⟩
  case h_unimplemented u => exact ⟨b, by rw [exec_unimplemented, exec_unimplemented]; rfl⟩
  case h_prefixCb op2 => exact ⟨b, extendedOp_withIme s b op2⟩
  case h_jpCond cc _ | h_jrCond cc _ | h_callCond cc _ | h_retCond cc =>
    exact ⟨b, by
      cases hc : s.holds cc <;>
        simp [hc, exec_jpCond, jumpCond, exec_jrCond, jumpRelCond, exec_callCond, callCond, exec_retCond,
          returnCond]⟩
  -- The other control transfers (44_control.md).
  case h_jpA16 | h_jpHl | h_jrE8 | h_callA16 | h_rst | h_ret =>
    exact ⟨b, by
      simp [exec_jpA16, jumpAbs, exec_jpHl, jumpHl, exec_jrE8, jumpRel, exec_callA16, callAbs, exec_rst, restart,
        exec_ret, returnFrom]⟩
  -- Loads, stores and stack transfers (40_loads.md).
  case h_ldReg | h_ldRegImm | h_ldRegHl | h_ldHlReg | h_ldPair | h_push | h_pop | h_ldMemBcA | h_ldMemDeA
    | h_ldhMemA8A | h_ldMemCA | h_ldMemA16A | h_ldAMemBc | h_ldAMemDe | h_ldhAMemA8 | h_ldAMemC | h_ldAMemA16
    | h_ldMemHlIncA | h_ldMemHlDecA | h_ldAMemHlInc | h_ldAMemHlDec | h_ldMemHlD8 | h_ldMemA16Sp | h_ldSpHl =>
    exact ⟨b, by
      simp [exec_ldReg, loadReg, exec_ldRegImm, loadRegImm, exec_ldRegHl, loadRegHl, exec_ldHlReg, storeHlReg,
        exec_ldPair, loadPairImm, exec_push, pushPair, exec_pop, popPair, exec_ldMemBcA, exec_ldMemDeA,
        exec_ldhMemA8A, exec_ldMemCA, exec_ldMemA16A, storeA, exec_ldAMemBc, exec_ldAMemDe, exec_ldhAMemA8,
        exec_ldAMemC, exec_ldAMemA16, loadA, exec_ldMemHlIncA, exec_ldMemHlDecA, storeAStep, exec_ldAMemHlInc,
        exec_ldAMemHlDec, loadAStep, exec_ldMemHlD8, storeHlImm, exec_ldMemA16Sp, storeSp, exec_ldSpHl, loadSpHl]⟩
  -- 8-bit arithmetic and logic (41_alu8.md).
  case h_aluReg | h_aluHl | h_aluImm | h_incReg | h_decReg | h_incMemHl | h_decMemHl | h_daa | h_cpl | h_scf
    | h_ccf =>
    exact ⟨b, by
      simp [exec_aluReg, aluReg, exec_aluHl, aluHl, exec_aluImm, aluImm, exec_incReg, incReg, exec_decReg, decReg,
        exec_incMemHl, incHl, exec_decMemHl, decHl, incFlags, decFlags, exec_daa, decimalAdjust, exec_cpl,
        complementA, exec_scf, setCarry, exec_ccf, complementCarry]⟩
  -- 16-bit arithmetic (42_alu16.md).
  case h_addHl | h_incPair | h_decPair | h_addSpE8 | h_ldHlSpE8 =>
    exact ⟨b, by
      simp [exec_addHl, addHlPair, exec_incPair, incPair, exec_decPair, decPair, exec_addSpE8, addSpSigned,
        exec_ldHlSpE8, loadHlSpSigned, spPlusFlags]⟩
  -- Rotates, shifts and bit operations (43_bitops.md).
  case h_rlca | h_rrca | h_rla | h_rra | h_rotReg | h_rotHl | h_bitReg | h_bitHl | h_resReg | h_resHl | h_setReg
    | h_setHl =>
    exact ⟨b, by
      simp [exec_rlca, exec_rrca, exec_rla, exec_rra, rotA, exec_rotReg, rotReg, exec_rotHl, rotHl, rotFlags,
        exec_bitReg, bitReg, exec_bitHl, bitHl, bitFlags, exec_resReg, resReg, exec_resHl, resHl, exec_setReg,
        setReg, exec_setHl, setHl]⟩

/-! ### The engine step -/

@[simp] theorem State.withIme_afterFetch8 : (s.withIme b).afterFetch8 = s.afterFetch8.withIme b := by
  simp [State.afterFetch8]

end

@[simp] theorem State.withIme_fetched (n : Nat) (s : State) (b : Bool) : (s.withIme b).fetched n = s.fetched n := by
  induction n generalizing s with
  | zero => rfl
  | succ n ih => simp [State.fetched, ih]

@[simp] theorem State.withIme_afterFetch (n : Nat) (s : State) (b : Bool) :
    (s.withIme b).afterFetch n = (s.afterFetch n).withIme b := by
  induction n generalizing s with
  | zero => rfl
  | succ n ih => simp [State.afterFetch, ih]

theorem engineStep_withIme (s : State) (b : Bool) :
    ∃ b', engineStep (s.withIme b) = outWithIme b' (engineStep s) := by
  cases hh : s.regs.halted with
  | true =>
    refine ⟨b, ?_⟩
    rw [engineStep_of_halted hh, engineStep_of_halted (s := s.withIme b) hh]
    rfl
  | false =>
    have hlen : (s.withIme b).nextLength = s.nextLength := rfl
    have hinstr : (s.withIme b).nextInstr = s.nextInstr := by simp [State.nextInstr, State.nextBytes, hlen]
    have hfetched : (s.withIme b).fetchedState = s.fetchedState.withIme b := s.withIme_afterFetch s.nextLength b
    rw [engineStep_of_running hh, engineStep_of_running (s := s.withIme b) hh, hinstr, hfetched]
    exact exec_withIme s.fetchedState b s.nextInstr

/-! ### The graphics timer -/

/-- A line is rasterized from SCY, SCX, BGP, video RAM and the frame buffer alone (R308). -/
theorem rasterizeRow_congr {s t : State} (hv : t.bus.vram = s.bus.vram) (hy : t.display.scy = s.display.scy)
    (hx : t.display.scx = s.display.scx) (hp : t.display.bgp = s.display.bgp) (hfb : t.display.fb = s.display.fb)
    (y n : Nat) : rasterizeRow t y n = rasterizeRow s y n := by
  induction n with
  | zero => exact hfb
  | succ n ih => rw [rasterizeRow, rasterizeRow, ih, pixelShade_congr hv hy hx hp]

@[simp] theorem setModeClock_withIme (s : State) (n : Nat) (b : Bool) :
    setModeClock (s.withIme b) n = (setModeClock s n).withIme b := rfl

@[simp] theorem setMode_withIme (s : State) (m : Mode) (b : Bool) :
    setMode (s.withIme b) m = (setMode s m).withIme b := rfl

@[simp] theorem rasterize_withIme (s : State) (b : Bool) : rasterize (s.withIme b) = (rasterize s).withIme b := by
  have hrow : ∀ y n, rasterizeRow (s.withIme b) y n = rasterizeRow s y n := rasterizeRow_congr rfl rfl rfl rfl rfl
  unfold rasterize
  rw [hrow, State.withIme_display]
  generalize rasterizeRow s s.display.ly.toNat 160 = fb
  rfl

@[simp] theorem hblankEnd_withIme (s : State) (b : Bool) : hblankEnd (s.withIme b) = (hblankEnd s).withIme b := rfl

@[simp] theorem vblankLine_withIme (s : State) (b : Bool) :
    vblankLine (s.withIme b) = (vblankLine s).withIme b := by
  unfold vblankLine
  rw [State.withIme_display]
  split <;> rfl

@[simp] theorem transition_withIme (s : State) (b : Bool) :
    transition (s.withIme b) = (transition s).withIme b := by
  unfold transition
  rw [State.withIme_display]
  cases s.display.mode <;> simp

theorem transitions_withIme (fuel : Nat) (s : State) (b : Bool) :
    transitions fuel (s.withIme b) = (transitions fuel s).withIme b := by
  induction fuel generalizing s with
  | zero => rfl
  | succ n ih =>
    rw [transitions, transitions, transition_withIme, ih]
    exact (apply_ite (State.withIme · b) _ _ _).symm

theorem advance_withIme (n : Nat) (s : State) (b : Bool) : advance n (s.withIme b) = (advance n s).withIme b :=
  congrArg syncStatus (transitions_withIme (s.display.modeClock + n) (setModeClock s (s.display.modeClock + n)) b)

theorem afterStep_withIme (s : State) (b : Bool) : afterStep (s.withIme b) = (afterStep s).withIme b := by
  unfold afterStep
  rw [State.withIme_outcome]
  split
  · exact advance_withIme _ s b
  · rfl

/-! ### IME -/

theorem step_withIme {s t : State} (b : Bool) (h : step s = .next t) :
    ∃ b', step (s.withIme b) = .next (t.withIme b') := by
  obtain ⟨u, hu, rfl⟩ := step_next h
  obtain ⟨b', hb⟩ := engineStep_withIme s b
  rw [hu] at hb
  exact ⟨b', by rw [step_of_engineStep hb, afterStep_withIme]⟩

theorem exec_ime {i : Instr} {s t : State} (h : exec i s = .next t) :
    t.regs.ime = (imeWritten i).getD s.regs.ime := by
  rcases exec_next h with ⟨n, u, -, rfl, hu⟩ | ⟨rfl | ⟨x, rfl⟩, rfl⟩ | ⟨v, rfl, rfl⟩
  · exact hu.ime
  · rfl
  · rfl
  · cases v <;> rfl

theorem imeWritten_getD (i : Instr) (b : Bool) :
    (imeWritten i).getD b = if i = .di then false else if i = .ei ∨ i = .reti then true else b := by
  unfold imeWritten
  split
  case h_4 hdi hei hreti =>
    rw [if_neg hdi, if_neg (not_or_intro hei hreti)]
    rfl
  all_goals simp

/-- Settles O19: `imeWritten` lists what writes IME; a step from the state with another IME ends in the same state but
for IME. -/
theorem imeReadByNothing : Obligations.ImeReadByNothing := by
  unfold Obligations.ImeReadByNothing
  exact ⟨fun i s t h => (exec_ime h).trans (imeWritten_getD i s.regs.ime), fun s t b h => step_withIme b h⟩

end Sys2Proof.Machine
end

section
/-! The transition loop of the graphics timer (60_exceptions.md R304 to R306). A transition takes the threshold of the
mode off the mode clock and leaves the mode, and how it leaves the mode does not depend on the clock. -/

namespace Sys2Proof.Machine

/-! ### Leaving a mode -/

/-- A transition without its write of the mode clock. -/
def leaveMode (s : State) : State :=
  match s.display.mode with
  | .oamScan => setMode s .pixelTransfer
  | .pixelTransfer => setMode (rasterize s) .hblank
  | .hblank => hblankEnd s
  | .vblank => vblankLine s

theorem setMode_setModeClock (s : State) (n : Nat) (m : Mode) :
    setMode (setModeClock s n) m = setModeClock (setMode s m) n := rfl

theorem rasterize_setModeClock (s : State) (n : Nat) :
    rasterize (setModeClock s n) = setModeClock (rasterize s) n := by
  have hrow : ∀ y k, rasterizeRow (setModeClock s n) y k = rasterizeRow s y k :=
    rasterizeRow_congr rfl rfl rfl rfl rfl
  unfold rasterize
  rw [hrow, setModeClock_ly]
  generalize rasterizeRow s s.display.ly.toNat 160 = fb
  rfl

theorem hblankEnd_setModeClock (s : State) (n : Nat) :
    hblankEnd (setModeClock s n) = setModeClock (hblankEnd s) n := rfl

theorem vblankLine_setModeClock (s : State) (n : Nat) :
    vblankLine (setModeClock s n) = setModeClock (vblankLine s) n := by
  unfold vblankLine
  rw [setModeClock_ly]
  split <;> rfl

theorem transition_setModeClock (s : State) (clock : Nat) :
    transition (setModeClock s clock) = setModeClock (leaveMode s) (clock - threshold s.display.mode) := by
  unfold transition leaveMode
  rw [setModeClock_mode]
  cases s.display.mode with
  | oamScan => exact setMode_setModeClock s _ _
  | pixelTransfer =>
    rw [← setMode_setModeClock, ← rasterize_setModeClock]
    rfl
  | hblank => exact hblankEnd_setModeClock s _
  | vblank => exact vblankLine_setModeClock s _

/-! ### The loop -/

/-- The clock of an advance is fuel enough for it, and so is any more (log entry 10). -/
theorem advance_eq_of_fuel {n fuel : Nat} {s : State} (hf : s.display.modeClock + n ≤ fuel) :
    advance n s = syncStatus (transitions fuel (setModeClock s (s.display.modeClock + n))) :=
  congrArg syncStatus (transitions_fuel _ _ _ (Nat.le_refl _) hf)

theorem advance_of_lt {n : Nat} {s : State} (h : s.display.modeClock + n < threshold s.display.mode) :
    advance n s = syncStatus (setModeClock s (s.display.modeClock + n)) := by
  rw [advance_eq_of_fuel (Nat.le_succ _), transitions, setModeClock_mode, setModeClock_modeClock,
    if_neg (Nat.not_le_of_lt h)]

/-- An advance that reaches the threshold leaves the mode and goes on with the rest of the clock. -/
theorem advance_of_le {n k : Nat} {s u : State} (hk : threshold s.display.mode = k)
    (h : k ≤ s.display.modeClock + n) (hu : setModeClock (leaveMode s) 0 = u) :
    advance n s = advance (s.display.modeClock + n - k) u := by
  subst hk hu
  rw [advance_eq_of_fuel (Nat.le_succ _), transitions, setModeClock_mode, setModeClock_modeClock, if_pos h,
    transition_setModeClock, advance_eq_of_fuel (fuel := s.display.modeClock + n) (by simp),
    setModeClock_modeClock, Nat.zero_add]
  rfl

theorem advance_modeClock_lt (n : Nat) (s : State) :
    (advance n s).display.modeClock < threshold (advance n s).display.mode :=
  transitions_below _ _ (Nat.le_refl _)

/-- Settles O54: below the threshold the loop stops at once, else it makes the transition of the mode and goes on. -/
theorem advanceLoop : Obligations.AdvanceLoop := by
  unfold Obligations.AdvanceLoop
  intro n s clock
  refine ⟨advance_of_lt, fun hm h => ?_, fun hm h => ?_, fun hm h => ?_, fun hm hl h => ?_, fun hm hl h => ?_,
    advance_modeClock_lt n s⟩
  · exact advance_of_le (congrArg threshold hm) h (by rw [leaveMode, hm]; rfl)
  · exact advance_of_le (congrArg threshold hm) h (by rw [leaveMode, hm]; rfl)
  · exact advance_of_le (congrArg threshold hm) h (by rw [leaveMode, hm]; rfl)
  · exact advance_of_le (congrArg threshold hm) h (by rw [leaveMode, hm, vblankLine, if_pos hl]; rfl)
  · exact advance_of_le (congrArg threshold hm) h (by rw [leaveMode, hm, vblankLine, if_neg hl]; rfl)

/-! ### The palette and the shades (R311, 10_state.md R46) -/

/-- Settles O59: BGP selects a shade number by its two bits, and the grey scale keeps the four shades apart. -/
theorem paletteAndShades : Obligations.PaletteAndShades := by
  unfold Obligations.PaletteAndShades
  exact ⟨fun bgp ci _ => paletteShade_toNat bgp ci,
    fun s y x y' x' => ⟨rfl, shade_inj _ _, shade_grey _, shade_darker_iff _ _⟩⟩

end Sys2Proof.Machine
end

section
/-! The encoding and the decoder (30_encoding.md). An instruction's first byte decides how many bytes follow it, and the
decoder reads those bytes only: this is `DecodesBack`, shown family by family. In the other direction each of the four
blocks of the opcode map is read row by row. -/

namespace Sys2Proof.Machine

/-! ### Decoding an encoding (R120, R122) -/

/-- The first byte of `i`'s encoding announces its length, and with the bytes announced, whatever follows them, the
decoder names `i`. -/
def DecodesBack (i : Instr) : Prop :=
  ∃ op args, encode i = op :: args ∧ instrLength op = args.length + 1 ∧
    ∀ rest : List Byte, decodeParts op ((args ++ rest).getD 0 0) ((args ++ rest).getD 1 0) = i

theorem decodesBack_byte {i : Instr} {op : Byte} (he : encode i = [op]) (hl : instrLength op = 1)
    (hd : ∀ d1 d2, decodeParts op d1 d2 = i) : DecodesBack i :=
  ⟨op, [], he, hl, fun _ => hd _ _⟩

theorem decodesBack_imm {i : Instr} {op v : Byte} (he : encode i = [op, v]) (hl : instrLength op = 2)
    (hd : ∀ d2, decodeParts op v d2 = i) : DecodesBack i :=
  ⟨op, [v], he, hl, fun _ => hd _⟩

/-- A word operand is its two bytes, low byte first (R132). -/
theorem decodesBack_word (mk : Word → Instr) {w : Word} {op : Byte} (he : encode (mk w) = [op, loByte w, hiByte w])
    (hl : instrLength op = 3) (hd : ∀ d1 d2, decodeParts op d1 d2 = mk (mkWord d2 d1)) : DecodesBack (mk w) :=
  ⟨op, [loByte w, hiByte w], he, hl, fun _ => (hd _ _).trans (congrArg mk (mkWord_halves w))⟩

theorem decodesBack (i : Instr) (h : i.WellFormed = true) : DecodesBack i := by
  revert h
  induction i using Instr.forall_by_family
  case h_prefixCb => nofun
  -- No operand field in the opcode.
  case h_nop | h_ldMemBcA | h_rlca | h_ldAMemBc | h_rrca | h_ldMemDeA | h_rla | h_ldAMemDe | h_rra | h_ldMemHlIncA
    | h_daa | h_ldAMemHlInc | h_cpl | h_ldMemHlDecA | h_incMemHl | h_decMemHl | h_scf | h_ldAMemHlDec | h_ccf
    | h_halt | h_ret | h_reti | h_ldMemCA | h_jpHl | h_ldAMemC | h_di | h_ldSpHl | h_ei =>
    exact fun _ => decodesBack_byte rfl rfl fun _ _ => rfl
  case h_stop | h_jrE8 | h_ldMemHlD8 | h_ldhMemA8A | h_addSpE8 | h_ldhAMemA8 | h_ldHlSpE8 =>
    exact fun _ => decodesBack_imm rfl rfl fun _ => rfl
  case h_ldMemA16Sp => exact fun _ => decodesBack_word .ldMemA16Sp rfl rfl fun _ _ => rfl
  case h_jpA16 => exact fun _ => decodesBack_word .jpA16 rfl rfl fun _ _ => rfl
  case h_callA16 => exact fun _ => decodesBack_word .callA16 rfl rfl fun _ _ => rfl
  case h_ldMemA16A => exact fun _ => decodesBack_word .ldMemA16A rfl rfl fun _ _ => rfl
  case h_ldAMemA16 => exact fun _ => decodesBack_word .ldAMemA16 rfl rfl fun _ _ => rfl
  -- One field in the opcode.
  case h_ldRegHl r | h_ldHlReg r | h_incReg r | h_decReg r =>
    cases r <;> exact fun _ => decodesBack_byte rfl rfl fun _ _ => rfl
  case h_ldRegImm r _ => cases r <;> exact fun _ => decodesBack_imm rfl rfl fun _ => rfl
  case h_aluHl op => cases op <;> exact fun _ => decodesBack_byte rfl rfl fun _ _ => rfl
  case h_aluImm op _ => cases op <;> exact fun _ => decodesBack_imm rfl rfl fun _ => rfl
  case h_addHl p | h_incPair p | h_decPair p => cases p <;> exact fun _ => decodesBack_byte rfl rfl fun _ _ => rfl
  case h_ldPair p _ => cases p <;> exact fun _ => decodesBack_word (Instr.ldPair _) rfl rfl fun _ _ => rfl
  case h_push p | h_pop p => cases p <;> exact fun _ => decodesBack_byte rfl rfl fun _ _ => rfl
  case h_retCond cc => cases cc <;> exact fun _ => decodesBack_byte rfl rfl fun _ _ => rfl
  case h_jrCond cc _ => cases cc <;> exact fun _ => decodesBack_imm rfl rfl fun _ => rfl
  case h_jpCond cc _ => cases cc <;> exact fun _ => decodesBack_word (Instr.jpCond _) rfl rfl fun _ _ => rfl
  case h_callCond cc _ => cases cc <;> exact fun _ => decodesBack_word (Instr.callCond _) rfl rfl fun _ _ => rfl
  case h_rst t => cases t <;> exact fun _ => decodesBack_byte rfl rfl fun _ _ => rfl
  case h_unimplemented u => cases u <;> exact fun _ => decodesBack_byte rfl rfl fun _ _ => rfl
  -- Two fields in the opcode.
  case h_ldReg dst src => cases dst <;> cases src <;> exact fun _ => decodesBack_byte rfl rfl fun _ _ => rfl
  case h_aluReg op r => cases op <;> cases r <;> exact fun _ => decodesBack_byte rfl rfl fun _ _ => rfl
  -- The extended table, its row in the byte after 0xCB.
  case h_rotHl op => cases op <;> exact fun _ => decodesBack_imm rfl rfl fun _ => rfl
  case h_rotReg op r => cases op <;> cases r <;> exact fun _ => decodesBack_imm rfl rfl fun _ => rfl
  case h_bitHl b | h_resHl b | h_setHl b => cases b <;> exact fun _ => decodesBack_imm rfl rfl fun _ => rfl
  case h_bitReg b r | h_resReg b r | h_setReg b r =>
    cases b <;> cases r <;> exact fun _ => decodesBack_imm rfl rfl fun _ => rfl

theorem decode_cons_of_le {op : Byte} {args rest : List Byte} (h : instrLength op = args.length + 1) :
    decode (op :: (args ++ rest)) =
      .ok (decodeParts op ((args ++ rest).getD 0 0) ((args ++ rest).getD 1 0), rest) := by
  simp [decode, h]

/-- Settles O6: the decoder takes as many bytes as the first one announces, and reads the instruction off them. -/
theorem decodeEncode : Obligations.DecodeEncode := by
  unfold Obligations.DecodeEncode
  intro i rest h
  obtain ⟨op, args, he, hl, hd⟩ := decodesBack i h
  rw [he, List.cons_append, decode_cons_of_le hl, hd]

/-! ### Encoding what was decoded (R122, R125) -/

/-- `i` is well formed, and its encoding is the first of these three bytes, as many of them as `op` announces. -/
def ReadsAs (op d1 d2 : Byte) (i : Instr) : Prop :=
  i.WellFormed = true ∧ encode i = [op, d1, d2].take (instrLength op)

theorem instrLength_cases (op : Byte) :
    instrLength op = 1 ∨ op ∈ twoByteOpcodes ∨ op ∈ threeByteOpcodes := by
  unfold instrLength
  by_cases h3 : op ∈ threeByteOpcodes
  · exact .inr (.inr h3)
  by_cases h2 : op ∈ twoByteOpcodes
  · exact .inr (.inl h2)
  · exact .inl (by rw [List.contains_eq_mem, List.contains_eq_mem, decide_eq_false h3, decide_eq_false h2]; rfl)

theorem encode_decodeParts_of_byte : ∀ op : Byte, instrLength op = 1 →
    (decodeParts op 0 0).WellFormed = true ∧ encode (decodeParts op 0 0) = [op] := by
  decide

/-- A byte that the instruction does not have is not looked at, so that two zeros decide for all. -/
theorem readsAs_of_byte {op : Byte} (h : instrLength op = 1) (d1 d2 : Byte) :
    ReadsAs op d1 d2 (decodeParts op d1 d2) := by
  obtain ⟨hw, he⟩ := encode_decodeParts_of_byte op h
  have hsame : decodeParts op d1 d2 = decodeParts op 0 0 := by
    obtain ⟨op', args, he', -, hd⟩ := decodesBack _ hw
    obtain ⟨rfl, rfl⟩ := List.cons.inj (he.symm.trans he')
    exact hd [d1, d2]
  rw [hsame]
  exact ⟨hw, by rw [he, h]; rfl⟩

theorem encode_decodeExtended : ∀ op2 : Byte,
    (decodeExtended op2).WellFormed = true ∧ encode (decodeExtended op2) = [0xCB, op2] := by
  decide

theorem readsAs_of_twoByte {op : Byte} (h : op ∈ twoByteOpcodes) (d1 d2 : Byte) :
    ReadsAs op d1 d2 (decodeParts op d1 d2) := by
  unfold twoByteOpcodes at h
  fin_cases h
  -- The last of them is 0xCB, whose second byte names the row.
  on_goal 27 => exact encode_decodeExtended d1
  all_goals exact ⟨rfl, rfl⟩

theorem readsAs_word {op d1 d2 : Byte} {i : Instr} (hw : i.WellFormed = true) (hl : instrLength op = 3)
    (he : encode i = [op, loByte (mkWord d2 d1), hiByte (mkWord d2 d1)]) : ReadsAs op d1 d2 i := by
  rw [loByte_mkWord, hiByte_mkWord] at he
  exact ⟨hw, by rw [he, hl]; rfl⟩

theorem readsAs_of_threeByte {op : Byte} (h : op ∈ threeByteOpcodes) (d1 d2 : Byte) :
    ReadsAs op d1 d2 (decodeParts op d1 d2) := by
  unfold threeByteOpcodes at h
  fin_cases h <;> exact readsAs_word rfl rfl rfl

/-- The instruction that three bytes stand for encodes to those of them that it has. -/
theorem readsAs_decodeParts (op d1 d2 : Byte) : ReadsAs op d1 d2 (decodeParts op d1 d2) := by
  rcases instrLength_cases op with h | h | h
  · exact readsAs_of_byte h d1 d2
  · exact readsAs_of_twoByte h d1 d2
  · exact readsAs_of_threeByte h d1 d2

theorem take_cons_getD_of_le {n : Nat} (hn : n ≤ 2) (op : Byte) {bytes : List Byte} (h : n ≤ bytes.length) :
    [op, bytes.getD 0 0, bytes.getD 1 0].take (n + 1) = op :: bytes.take n := by
  match n, bytes, h with
  | 0, _, _ => simp
  | 1, _ :: _, _ => simp
  | 2, _ :: _ :: _, _ => simp

theorem instrLength_le (op : Byte) : instrLength op ≤ 3 := by
  unfold instrLength
  split
  · decide
  · split <;> decide

theorem decode_cons (op : Byte) (bytes : List Byte) :
    decode (op :: bytes) =
      if bytes.length < instrLength op - 1 then .error .truncated
      else .ok (decodeParts op (bytes.getD 0 0) (bytes.getD 1 0), bytes.drop (instrLength op - 1)) := rfl

theorem encode_append_of_decode {bytes rest : List Byte} {i : Instr} (h : decode bytes = .ok (i, rest)) :
    i.WellFormed = true ∧ encode i ++ rest = bytes := by
  cases bytes with
  | nil => cases h
  | cons op bytes =>
    rw [decode_cons] at h
    split at h
    · cases h
    · next hlen =>
      cases h
      have hpos := instrLength_pos op
      have hle := instrLength_le op
      obtain ⟨n, hn⟩ : ∃ n, instrLength op = n + 1 := Nat.exists_eq_add_one.mpr hpos
      rw [hn, Nat.add_sub_cancel] at hlen
      obtain ⟨hw, he⟩ := readsAs_decodeParts op (bytes.getD 0 0) (bytes.getD 1 0)
      refine ⟨hw, ?_⟩
      rw [he, hn, take_cons_getD_of_le (by omega) op (by omega), List.cons_append, Nat.add_sub_cancel,
        List.take_append_drop]

theorem decode_error_iff (op : Byte) (rest : List Byte) :
    (∃ e, decode (op :: rest) = .error e) ↔ rest.length + 1 < instrLength op := by
  rw [decode_cons]
  split
  · next h => exact ⟨fun _ => by omega, fun _ => ⟨_, rfl⟩⟩
  · next h => exact ⟨nofun, fun h' => by omega⟩

/-- Settles O7: the three bytes the decoder looks at encode to what it reads, and it refuses a list too short for it. -/
theorem decodeReadsEncoding : Obligations.DecodeReadsEncoding := by
  unfold Obligations.DecodeReadsEncoding
  exact ⟨fun _ _ _ => encode_append_of_decode, decode_error_iff⟩

/-- Settles O5: each sample is read by the decoder's own evaluation. -/
theorem encodingSamples : Obligations.EncodingSamples := by
  unfold Obligations.EncodingSamples
  exact ⟨rfl, rfl, rfl, rfl, rfl, rfl, rfl, rfl, rfl, rfl, rfl, rfl, rfl, rfl, rfl, rfl, rfl, rfl, rfl, rfl, rfl, rfl,
    rfl, rfl, rfl, rfl, rfl, rfl, rfl⟩

end Sys2Proof.Machine
end

section
/-! Fetching and the instruction at PC (00_scope.md R14, 30_encoding.md R120, R125). -/

namespace Sys2Proof.Machine

theorem State.fetched_length (n : Nat) (s : State) : (s.fetched n).length = n := by
  induction n generalizing s with
  | zero => rfl
  | succ n ih => exact congrArg Nat.succ (ih s.afterFetch8)

theorem State.afterFetch_outcome (n : Nat) (s : State) : (s.afterFetch n).outcome = s.outcome := by
  induction n generalizing s with
  | zero => rfl
  | succ n ih => exact (ih s.afterFetch8).trans (s.afterRead_outcome s.regs.pc)

/-- Byte `k` of those fetched is the byte at PC plus `k`, read after the fetches before it. -/
theorem State.getElem?_fetched {n k : Nat} (h : k < n) (s : State) :
    (s.fetched n)[k]? = some ((s.afterFetch k).peek (s.regs.pc + BitVec.ofNat 16 k)) := by
  induction n generalizing s k with
  | zero => omega
  | succ n ih =>
    cases k with
    | zero => simp [State.fetched, State.afterFetch]
    | succ k =>
      have hpc : s.regs.pc + 1 + BitVec.ofNat 16 k = s.regs.pc + BitVec.ofNat 16 (k + 1) := by bv_omega
      calc (s.fetched (n + 1))[k + 1]?
          = (s.afterFetch8.fetched n)[k]? := rfl
        _ = some ((s.afterFetch8.afterFetch k).peek (s.regs.pc + 1 + BitVec.ofNat 16 k)) :=
            ih (by omega) s.afterFetch8
        _ = some ((s.afterFetch (k + 1)).peek (s.regs.pc + BitVec.ofNat 16 (k + 1))) := by
            rw [hpc]
            rfl

/-- Settles O11: induction over the fetches, each of which moves PC by one and reads one byte. -/
theorem fetchAdvancesPc : Obligations.FetchAdvancesPc := by
  unfold Obligations.FetchAdvancesPc
  intro n s
  obtain ⟨hb, hd⟩ := s.afterFetch_memory n
  exact ⟨s.afterFetch_regs n, hb, hd, s.afterFetch_outcome n, s.fetched_length n, fun k hk => s.getElem?_fetched hk⟩

/-- The bytes at PC being an encoding, they are the instruction's bytes and the decoder names it. -/
theorem State.nextInstr_of_fetched {i : Instr} {s : State} (hw : i.WellFormed = true)
    (hf : s.fetched (encode i).length = encode i) :
    s.nextLength = (encode i).length ∧ s.nextInstr = i := by
  obtain ⟨op, args, he, hl, hd⟩ := decodesBack i hw
  rw [he] at hf
  have hop : s.peek s.regs.pc = op := (List.cons.inj hf).1
  have hlen : s.nextLength = (op :: args).length := by
    unfold State.nextLength
    rw [hop, hl]
    rfl
  have hbytes : s.nextBytes = op :: args := by rw [State.nextBytes, hlen, hf]
  refine ⟨he ▸ hlen, ?_⟩
  have hargs := hd []
  rw [List.append_nil] at hargs
  rw [State.nextInstr, hbytes]
  exact hargs

theorem engineStep_of_fetched {i : Instr} {s : State} (hw : i.WellFormed = true) (hs : s.regs.halted = false)
    (hf : s.fetched (encode i).length = encode i) :
    engineStep s = exec i (s.afterFetch (encode i).length) := by
  obtain ⟨hlen, hinstr⟩ := State.nextInstr_of_fetched hw hf
  rw [engineStep_of_running hs, hinstr, State.fetchedState, hlen]

/-- Settles O10: the step is the engine step, which runs the instruction decoded, and the orchestrator's part, which
advances the timer where the outcome is a cost. -/
theorem stepRunsDecoded : Obligations.StepRunsDecoded := by
  unfold Obligations.StepRunsDecoded
  refine ⟨fun i s hw hs hf => ⟨congrArg Regs.pc (s.afterFetch_regs _), ?_⟩, fun t n ht => ?_,
    fun t => afterStep_of_runEnded⟩
  · rw [step, engineStep_of_fetched hw hs hf]
    cases exec i (s.afterFetch (encode i).length) <;> rfl
  · rw [afterStep, ht]

/-! ### The byte 0xCB (R125) -/

theorem decodeParts_cb (op2 d2 : Byte) : decodeParts 0xCB op2 d2 = decodeExtended op2 := rfl

theorem State.nextInstr_of_cb {s : State} (h : s.peek s.regs.pc = 0xCB) :
    s.nextLength = 2 ∧ s.nextInstr = decodeExtended (s.afterFetch8.peek (s.regs.pc + 1)) := by
  have hlen : s.nextLength = 2 := by
    unfold State.nextLength
    rw [h]
    rfl
  have hbytes : s.nextBytes = [0xCB, s.afterFetch8.peek (s.regs.pc + 1)] := by
    rw [State.nextBytes, hlen, ← h]
    rfl
  refine ⟨hlen, ?_⟩
  rw [State.nextInstr, hbytes]
  exact decodeParts_cb _ _

/-- Settles O9: the decoder and the constructor `prefixCb` both go by the second byte, and every row of the extended
table completes. -/
theorem prefixSelectsExtendedRow : Obligations.PrefixSelectsExtendedRow := by
  unfold Obligations.PrefixSelectsExtendedRow
  refine ⟨fun _ => rfl, fun op2 s => ?_, fun s hs h => ⟨?_, congrArg Regs.pc (s.afterFetch_regs 2)⟩⟩
  · obtain ⟨n, u, -, he, -⟩ := answers_extended op2 s
    exact ⟨_, n, (extendedOp_eq_exec op2 s).trans he, he, rfl⟩
  · obtain ⟨hlen, hinstr⟩ := State.nextInstr_of_cb h
    rw [engineStep_of_running hs, hinstr, State.fetchedState, hlen]

end Sys2Proof.Machine
end

section
/-! What one instruction changes: the bytes at the addresses it stores to (20_memory.md R58), never the low nibble of F
but by POP AF (10_state.md R25), and never the timer's own state (R44, R48, R49). All follow from what `exec` answers. -/

namespace Sys2Proof.Machine

/-- The accesses of an instruction keep every byte of the block's own that its writes do not touch. -/
theorem Accesses.peek {reads : List Word} {writes : List (Word × Byte)} {s u : State}
    (h : Accesses reads writes s u) {b : Word} (hb : isExternalIo b = false)
    (hw : ∀ c ∈ writes, storeTouches c.1 b = false) : u.peek b = s.peek b := by
  obtain ⟨hbus, hdisplay, -⟩ := h
  obtain ⟨hrbus, hrdisplay⟩ := foldl_afterRead reads s
  calc u.peek b
      = (writes.foldl (fun s c => s.store c.1 c.2) (reads.foldl State.afterRead s)).peek b :=
        State.peek_congr_internal hbus hdisplay hb
    _ = (reads.foldl State.afterRead s).peek b := foldl_store_peek writes _ hw
    _ = s.peek b := State.peek_congr_internal hrbus hrdisplay hb

/-- Reads alone keep the address space and the display. -/
theorem Accesses.kept {reads : List Word} {s u : State} (h : Accesses reads [] s u) :
    u.bus = s.bus ∧ u.display = s.display := by
  obtain ⟨hbus, hdisplay, -⟩ := h
  obtain ⟨hrbus, hrdisplay⟩ := foldl_afterRead reads s
  exact ⟨hbus.trans hrbus, hdisplay.trans hrdisplay⟩

/-- Settles O21: an instruction's writes are at its stored addresses, and a store keeps what it does not touch. -/
theorem instrMemoryFrame : Obligations.InstrMemoryFrame := by
  unfold Obligations.InstrMemoryFrame
  intro i s t h
  rcases exec_next h with ⟨n, u, -, rfl, hu⟩ | ⟨-, rfl⟩ | ⟨v, -, rfl⟩
  · obtain ⟨reads, writes, hw, ha⟩ := hu.memory
    refine ⟨fun b hb htouch => ha.peek hb fun c hc => htouch c.1 ?_, fun hnone => ?_⟩
    · rw [← hw]
      exact List.mem_map_of_mem hc
    · rw [hnone, List.map_eq_nil_iff] at hw
      subst hw
      exact ha.kept
  · exact ⟨fun _ _ _ => rfl, fun _ => ⟨rfl, rfl⟩⟩
  · exact ⟨fun _ _ _ => rfl, fun _ => ⟨rfl, rfl⟩⟩

/-- What an instruction leaves in F: POP AF the popped byte with its low nibble cleared, any other the nibble it found. -/
theorem exec_flags {i : Instr} {s t : State} (h : exec i s = .next t) :
    (i = .popAf ∧ t.regs.f = s.peek s.regs.sp &&& 0xF0) ∨
      (i ≠ .popAf ∧ t.regs.f &&& 0x0F = s.regs.f &&& 0x0F) := by
  rcases exec_next h with ⟨n, u, -, rfl, hu⟩ | ⟨rfl | ⟨x, rfl⟩, rfl⟩ | ⟨v, rfl, rfl⟩
  · exact hu.flags
  · exact .inr ⟨nofun, rfl⟩
  · exact .inr ⟨nofun, rfl⟩
  · exact .inr ⟨by cases v <;> nofun, rfl⟩

theorem and_f0_and_0f (v : Byte) : v &&& 0xF0 &&& 0x0F = 0 := by
  rw [BitVec.and_assoc]
  exact BitVec.and_zero

/-- Every instruction keeps a clear low nibble of F clear. -/
theorem exec_lowNibble {i : Instr} {s t : State} (h : exec i s = .next t) (h0 : s.regs.f &&& 0x0F = 0) :
    t.regs.f &&& 0x0F = 0 := by
  rcases exec_flags h with ⟨-, hf⟩ | ⟨-, hf⟩
  · rw [hf, and_f0_and_0f]
  · exact hf.trans h0

/-- Settles O20: the two cases of `exec_flags`. -/
theorem flagLowNibble : Obligations.FlagLowNibble := by
  unfold Obligations.FlagLowNibble
  intro i s t h
  refine ⟨fun hi => ?_, fun hi => ?_, exec_lowNibble h⟩
  · rcases exec_flags h with ⟨-, hf⟩ | ⟨hne, -⟩
    · exact hf
    · exact absurd hi hne
  · rcases exec_flags h with ⟨heq, -⟩ | ⟨-, hf⟩
    · exact absurd heq hi
    · exact hf

/-- The timer's own state is that of `d`. -/
def SameTimer (d e : Display) : Prop :=
  e.ly = d.ly ∧ e.mode = d.mode ∧ e.modeClock = d.modeClock ∧ e.fb = d.fb ∧ e.frameCount = d.frameCount

theorem SameTimer.trans {c d e : Display} (h : SameTimer c d) (k : SameTimer d e) : SameTimer c e := by
  obtain ⟨h1, h2, h3, h4, h5⟩ := h
  obtain ⟨k1, k2, k3, k4, k5⟩ := k
  exact ⟨k1.trans h1, k2.trans h2, k3.trans h3, k4.trans h4, k5.trans h5⟩

theorem engineStep_sameTimer {s t : State} (h : engineStep s = .next t) : SameTimer s.display t.display :=
  engineStep_keeps (fun u => SameTimer s.display u.display) (fun _ _ _ hd hu => hd ▸ hu)
    (fun u a v hu => hu.trans (u.store_display_keeps a v)) h ⟨rfl, rfl, rfl, rfl, rfl⟩

/-- Settles O22: an engine step reaches the display by stores alone, and a store writes none of these fields. -/
theorem engineKeepsTimer : Obligations.EngineKeepsTimer := by
  unfold Obligations.EngineKeepsTimer
  exact fun s t h => engineStep_sameTimer h

end Sys2Proof.Machine
end

section
/-! The invariant of the machine. A store keeps the part that an engine step may not break, which is everything but the
synchronization of STAT (LYC and STAT may be stored to) and the mode clock; the advance after a completed instruction
restores those two (60_exceptions.md R312, R313), and a step that ends the run writes no display state at all. -/

namespace Sys2Proof.Machine

/-! ### The parts of the invariant -/

/-- LY is a visible line in the visible modes and a line of 144 to 153 in vertical blank (R305 to R307). -/
def LineWf (d : Display) : Prop :=
  (d.mode = .vblank → 144 ≤ d.ly.toNat ∧ d.ly.toNat ≤ 153) ∧ (d.mode ≠ .vblank → d.ly.toNat < 144)

theorem State.displayWf_iff (s : State) :
    s.displayWf = true ↔ s.display.modeClock < threshold s.display.mode ∧ LineWf s.display ∧
      s.display.stat = syncedStat s.display ∧ s.display.stat.getLsbD 7 = true := by
  have hline : (if s.display.mode = .vblank then decide (144 ≤ s.display.ly.toNat ∧ s.display.ly.toNat ≤ 153)
      else decide (s.display.ly.toNat < 144)) = true ↔ LineWf s.display := by
    unfold LineWf
    split
    · next h => simp [h]
    · next h => simp [h]
  simp only [State.displayWf, Bool.and_eq_true, decide_eq_true_eq, beq_iff_eq, hline, and_assoc]

theorem State.flagsWf_iff (s : State) : s.flagsWf = true ↔ s.regs.f &&& 0x0F = 0 := beq_iff_eq

theorem State.inv_iff (s : State) :
    s.Inv = true ↔ s.memoryWf = true ∧ s.flagsWf = true ∧ s.banksWf = true ∧ s.displayWf = true := by
  simp only [State.Inv, Bool.and_eq_true, and_assoc]

/-- What an engine step keeps of the invariant in the address space and the display. -/
def BusDisplayWf (s : State) : Prop :=
  s.memoryWf = true ∧ s.banksWf = true ∧ LineWf s.display ∧ s.display.stat.getLsbD 7 = true

/-! ### A store -/

theorem lowBank_ne_zero_iff (bank : BitVec 7) : bank &&& 0x1F ≠ 0 ↔ bank.toNat % 32 ≠ 0 := by
  have hlow : (bank &&& 0x1F).toNat = bank.toNat % 32 := toNat_and_of_lowMask 5 rfl
  rw [← hlow]
  exact not_congr BitVec.toNat_inj.symm

/-- Bits 4 to 0 of the ROM bank stay nonzero: R70 coerces 0 to 1, and R71 keeps them (10_state.md R35). -/
theorem State.store_romBank {s : State} (a : Word) (v : Byte) (h : s.bus.romBank.toNat % 32 ≠ 0) :
    (s.store a v).bus.romBank.toNat % 32 ≠ 0 := by
  unfold State.store
  split
  case h_1 =>
    split
    · exact h
    · obtain ⟨bank, hbus, hval⟩ := s.bus.bankWriteRomLow_eq v
      rw [hbus]
      show bank.toNat % 32 ≠ 0
      split at hval <;> omega
  case h_2 =>
    split
    · cases hmode : s.bus.bankingMode with
      | true =>
        obtain ⟨bank, hbus, -⟩ := AddressSpace.bankWriteUpper_ram v hmode
        rw [hbus]
        exact h
      | false =>
        obtain ⟨bank, hbus, hval⟩ := AddressSpace.bankWriteUpper_rom v hmode
        rw [hbus]
        show bank.toNat % 32 ≠ 0
        omega
    · exact h
  case h_4 | h_9 => split <;> exact h
  all_goals exact h

theorem State.banksWf_iff (s : State) :
    s.banksWf = true ↔ s.bus.romBankCount ∈ [2, 4, 8, 32, 64, 128] ∧ s.bus.ramBankCount ∈ [0, 1, 4, 16, 8] ∧
      s.bus.romBank.toNat % 32 ≠ 0 := by
  simp only [State.banksWf, Bool.and_eq_true, List.contains_iff_mem, decide_eq_true_eq, lowBank_ne_zero_iff,
    and_assoc]

theorem State.store_banksWf {s : State} (h : s.banksWf = true) (a : Word) (v : Byte) :
    (s.store a v).banksWf = true := by
  obtain ⟨-, -, hrom, hram⟩ := sameCartridge_store s a v
  rw [State.banksWf_iff] at h ⊢
  obtain ⟨h1, h2, h3⟩ := h
  exact ⟨hrom ▸ h1, hram ▸ h2, State.store_romBank a v h3⟩

/-- STAT bit 7 reads 1 whatever is stored (10_state.md R42). -/
theorem Display.write_stat7 {d : Display} (r : DisplayReg) (v : Byte) (h : d.stat.getLsbD 7 = true) :
    (d.write r v).stat.getLsbD 7 = true := by
  cases r
  case stat => simp [Display.write]
  all_goals exact h

theorem State.store_stat7 {s : State} (a : Word) (v : Byte) (h : s.display.stat.getLsbD 7 = true) :
    (s.store a v).display.stat.getLsbD 7 = true := by
  unfold State.store
  split
  case h_9 =>
    split
    · exact Display.write_stat7 _ v h
    · exact h
  case h_1 | h_2 | h_4 => split <;> exact h
  all_goals exact h

theorem LineWf.of_sameTimer {d e : Display} (h : SameTimer d e) (hd : LineWf d) : LineWf e := by
  obtain ⟨hly, hmode, -⟩ := h
  unfold LineWf
  rw [hly, hmode]
  exact hd

theorem BusDisplayWf.store {s : State} (h : BusDisplayWf s) (a : Word) (v : Byte) : BusDisplayWf (s.store a v) := by
  obtain ⟨hmem, hbanks, hline, hstat⟩ := h
  exact ⟨State.store_memoryWf hmem a v, State.store_banksWf hbanks a v, hline.of_sameTimer (s.store_display_keeps a v),
    State.store_stat7 a v hstat⟩

theorem BusDisplayWf.congr {s t : State} (hb : t.bus = s.bus) (hd : t.display = s.display) (h : BusDisplayWf s) :
    BusDisplayWf t := by
  unfold BusDisplayWf State.memoryWf State.banksWf at *
  rwa [hb, hd]

/-! ### An engine step -/

/-- An engine step completes an instruction, or ends the run having written nothing of the display. -/
theorem engineStep_next {s t : State} (h : engineStep s = .next t) :
    (∃ n, t.outcome = some (.cycles n)) ∨ (t.runEnded ∧ t.display = s.display) := by
  cases hs : s.regs.halted with
  | true =>
    rw [engineStep_of_halted hs] at h
    cases h
    exact .inr ⟨.inl rfl, rfl⟩
  | false =>
    rw [engineStep_of_running hs] at h
    obtain ⟨-, hd⟩ := s.afterFetch_memory s.nextLength
    rcases exec_next h with ⟨n, u, -, rfl, -⟩ | ⟨-, rfl⟩ | ⟨v, -, rfl⟩
    · exact .inl ⟨n, rfl⟩
    · exact .inr ⟨.inl rfl, hd⟩
    · exact .inr ⟨.inr rfl, hd⟩

theorem engineStep_flagsWf {s t : State} (h : engineStep s = .next t) (hf : s.flagsWf = true) :
    t.flagsWf = true := by
  rw [State.flagsWf_iff] at hf ⊢
  cases hs : s.regs.halted with
  | true =>
    rw [engineStep_of_halted hs] at h
    cases h
    exact hf
  | false =>
    rw [engineStep_of_running hs] at h
    refine exec_lowNibble h ?_
    rw [State.fetchedState, s.afterFetch_regs]
    exact hf

theorem engineStep_busDisplayWf {s t : State} (h : engineStep s = .next t) (hs : BusDisplayWf s) : BusDisplayWf t :=
  engineStep_keeps BusDisplayWf (fun _ _ => BusDisplayWf.congr) (fun _ a v hu => hu.store a v) h hs

/-! ### An advance -/

theorem LineWf.of_visible {d : Display} (hm : d.mode ≠ .vblank) (h : d.ly.toNat < 144) : LineWf d :=
  ⟨fun hv => absurd hv hm, fun _ => h⟩

theorem LineWf.of_vblank {d : Display} (hm : d.mode = .vblank) (h : 144 ≤ d.ly.toNat ∧ d.ly.toNat ≤ 153) :
    LineWf d :=
  ⟨fun _ => h, fun hn => absurd hm hn⟩

theorem hblankEnd_lineWf {s : State} (h : s.display.ly.toNat < 144) : LineWf (hblankEnd s).display := by
  have hly := hblankEnd_ly s
  by_cases h144 : s.display.ly + 1 = 144
  · refine .of_vblank ((hblankEnd_mode s).trans (if_pos h144)) ?_
    rw [hly, h144]
    decide
  · refine .of_visible (fun hv => ?_) (by rw [hly]; bv_omega)
    cases hv.symm.trans ((hblankEnd_mode s).trans (if_neg h144))

theorem vblankLine_lineWf {s : State} (hm : s.display.mode = .vblank)
    (h : 144 ≤ s.display.ly.toNat ∧ s.display.ly.toNat ≤ 153) : LineWf (vblankLine s).display := by
  have hly := vblankLine_ly s
  by_cases h153 : s.display.ly = 153
  · rw [if_pos h153] at hly
    refine .of_visible (fun hv => ?_) (by rw [hly]; decide)
    cases hv.symm.trans ((vblankLine_mode s).trans (if_pos h153))
  · rw [if_neg h153] at hly
    exact .of_vblank (((vblankLine_mode s).trans (if_neg h153)).trans hm) (by rw [hly]; bv_omega)

/-- A transition leaves LY in the range of the mode it enters. -/
theorem transition_lineWf {s : State} (h : LineWf s.display) : LineWf (transition s).display := by
  obtain ⟨hv, hn⟩ := h
  rw [transition_eq]
  cases hm : s.display.mode with
  | oamScan | pixelTransfer =>
    have hly := hn (by simp [hm])
    exact .of_visible (by simp) (by simpa only [setMode_ly, rasterize_ly, setModeClock_ly] using hly)
  | hblank =>
    have hly := hn (by simp [hm])
    exact hblankEnd_lineWf (by simpa only [setModeClock_ly] using hly)
  | vblank =>
    have hly := hv hm
    exact vblankLine_lineWf ((setModeClock_mode s _).trans hm) (by simpa only [setModeClock_ly] using hly)

/-- The frame buffer stays canonical: a line is rasterized in pixel transfer, where LY is a visible line (R307). -/
theorem transition_fbWf {s : State} (hl : LineWf s.display) (h : storeWf (144 * 160) s.display.fb = true) :
    storeWf (144 * 160) (transition s).display.fb = true := by
  rw [transition_eq]
  cases hm : s.display.mode with
  | pixelTransfer =>
    have hly := hl.2 (by simp [hm])
    simp only [setMode_fb, rasterize_fb, setModeClock_ly]
    exact rasterizeRow_wf (by rwa [setModeClock_fb]) hly 160 (Nat.le_refl _)
  | oamScan | hblank | vblank =>
    simpa only [setMode_fb, hblankEnd_fb, vblankLine_fb, setModeClock_fb] using h

theorem transitions_lineWf_fbWf (fuel : Nat) {s : State} (hl : LineWf s.display)
    (h : storeWf (144 * 160) s.display.fb = true) :
    LineWf (transitions fuel s).display ∧ storeWf (144 * 160) (transitions fuel s).display.fb = true :=
  transitions_induct (P := fun t => LineWf t.display ∧ storeWf (144 * 160) t.display.fb = true)
    (fun _ _ ht => ⟨transition_lineWf ht.1, transition_fbWf ht.1 ht.2⟩) fuel s ⟨hl, h⟩

theorem sync_toNat (stat : Byte) (coincides : Bool) (m : Mode) :
    ((stat &&& 0xF8) ||| (if coincides then 0x04 else 0) ||| modeNumber m).toNat =
      8 * (stat.toNat / 8) + (if coincides then 4 else 0) + (modeNumber m).toNat := by
  revert stat coincides
  cases m <;> decide

/-- The synchronized STAT as a number: bits 7 to 3 kept, the coincidence in bit 2, the mode in bits 1 to 0 (R313). -/
theorem syncedStat_toNat (d : Display) :
    (syncedStat d).toNat =
      8 * (d.stat.toNat / 8) + (if d.ly = d.lyc then 4 else 0) + (modeNumber d.mode).toNat := by
  have h := sync_toNat d.stat (decide (d.ly = d.lyc)) d.mode
  simp only [decide_eq_true_eq] at h
  exact h

theorem modeNumber_lt (m : Mode) : (modeNumber m).toNat < 4 := by cases m <;> decide

/-- Synchronizing keeps bits 7 to 3 of STAT, and depends on no other bit of it. -/
theorem syncedStat_div (d : Display) : (syncedStat d).toNat / 8 = d.stat.toNat / 8 := by
  have hm := modeNumber_lt d.mode
  rw [syncedStat_toNat]
  split <;> omega

theorem syncedStat_congr {d e : Display} (hs : e.stat.toNat / 8 = d.stat.toNat / 8) (hly : e.ly = d.ly)
    (hlyc : e.lyc = d.lyc) (hm : e.mode = d.mode) : syncedStat e = syncedStat d := by
  apply BitVec.eq_of_toNat_eq
  rw [syncedStat_toNat, syncedStat_toNat, hs, hly, hlyc, hm]

theorem syncStatus_synced (s : State) : (syncStatus s).display.stat = syncedStat (syncStatus s).display :=
  (syncedStat_congr (d := s.display) (e := (syncStatus s).display) (syncedStat_div _) rfl rfl rfl).symm

theorem getLsbD_seven_iff (v : Byte) : v.getLsbD 7 = true ↔ v.toNat / 8 ≥ 16 := by
  revert v
  decide

theorem advance_display_inv (n : Nat) {s : State} (h : BusDisplayWf s) :
    (advance n s).memoryWf = true ∧ (advance n s).displayWf = true := by
  obtain ⟨hmem, -, hline, hstat⟩ := h
  have hparts := hmem
  simp only [State.memoryWf, Bool.and_eq_true] at hparts ⊢
  obtain ⟨hbus, hfb⟩ := hparts
  obtain ⟨hl, hf⟩ := transitions_lineWf_fbWf (s.display.modeClock + n)
    (s := setModeClock s (s.display.modeClock + n)) hline hfb
  obtain ⟨-, -, -, -, hkept, -⟩ := transitions_keeps (s.display.modeClock + n)
    (setModeClock s (s.display.modeClock + n))
  refine ⟨⟨by rw [advance_bus]; exact hbus, hf⟩, (State.displayWf_iff _).2
    ⟨advance_modeClock_lt n s, hl, syncStatus_synced _, ?_⟩⟩
  rw [getLsbD_seven_iff] at hstat ⊢
  rw [advance, syncStatus_stat, syncedStat_div, setModeClock_modeClock, hkept]
  exact hstat

theorem advance_inv (n : Nat) {s : State} (hf : s.flagsWf = true) (h : BusDisplayWf s) :
    (advance n s).Inv = true := by
  obtain ⟨hmem, hdisplay⟩ := advance_display_inv n h
  obtain ⟨-, hbanks, -⟩ := h
  refine (State.inv_iff _).2 ⟨hmem, ?_, ?_, hdisplay⟩
  · rw [State.flagsWf, advance_regs]
    exact hf
  · rw [State.banksWf, advance_bus]
    exact hbanks

/-! ### A step -/

/-- Settles O15: a completed instruction keeps what a store keeps and its advance restores the rest; a step that ends
the run writes nothing of it. -/
theorem stepKeepsInvariant : Obligations.StepKeepsInvariant := by
  unfold Obligations.StepKeepsInvariant
  intro s t hs h
  obtain ⟨u, hu, rfl⟩ := step_next h
  obtain ⟨hmem, hflags, hbanks, hdisplay⟩ := (State.inv_iff s).1 hs
  obtain ⟨-, hline, -, hstat⟩ := (State.displayWf_iff s).1 hdisplay
  have hflags' := engineStep_flagsWf hu hflags
  have hwf := engineStep_busDisplayWf hu ⟨hmem, hbanks, hline, hstat⟩
  rcases engineStep_next hu with ⟨n, hn⟩ | ⟨hend, hd⟩
  · rw [afterStep, hn]
    exact advance_inv n hflags' hwf
  · obtain ⟨hmem', hbanks', -⟩ := hwf
    rw [afterStep_of_runEnded hend]
    refine (State.inv_iff u).2 ⟨hmem', hflags', hbanks', ?_⟩
    rw [State.displayWf, hd]
    exact hdisplay

/-- Settles O16: the invariant is decidable, and reset is one state. -/
theorem resetInvariant : Obligations.ResetInvariant := by
  unfold Obligations.ResetInvariant
  decide

end Sys2Proof.Machine
end

section
/-! The address space region by region (20_memory.md R59 to R68): the effective banks, the display registers at their
addresses, storage that reads back what was stored, and words and the stack over it. -/

namespace Sys2Proof.Machine

/-! ### The effective banks (R61, R62) -/

/-- Reducing a register to a count that is a power of two is the remainder. -/
theorem and_count_sub_one {count : Nat} (h : count ∈ [1, 2, 4, 8, 16, 32, 64, 128]) (n : Nat) :
    n &&& (count - 1) = n % count := by
  have hpow : ∃ k, count = 2 ^ k := by
    fin_cases h
    exacts [⟨0, rfl⟩, ⟨1, rfl⟩, ⟨2, rfl⟩, ⟨3, rfl⟩, ⟨4, rfl⟩, ⟨5, rfl⟩, ⟨6, rfl⟩, ⟨7, rfl⟩]
  obtain ⟨k, rfl⟩ := hpow
  exact Nat.and_two_pow_sub_one_eq_mod n k

theorem AddressSpace.effRomBank_eq {b : AddressSpace} (h : b.romBankCount ∈ [2, 4, 8, 32, 64, 128]) :
    b.effRomBank = if b.romBank.toNat % b.romBankCount = 0 then 1 else b.romBank.toNat % b.romBankCount := by
  unfold AddressSpace.effRomBank
  rw [and_count_sub_one ((by decide : [2, 4, 8, 32, 64, 128] ⊆ [1, 2, 4, 8, 16, 32, 64, 128]) h)]

theorem AddressSpace.effRamBank_eq {b : AddressSpace} (h : b.ramBankCount ∈ [1, 4, 8, 16]) :
    b.effRamBank = b.ramBank.toNat % b.ramBankCount := by
  unfold AddressSpace.effRamBank
  rw [and_count_sub_one ((by decide : [1, 4, 8, 16] ⊆ [1, 2, 4, 8, 16, 32, 64, 128]) h)]

/-- ROM bank 0 is never the effective bank, and the effective bank is one of the image's. -/
theorem AddressSpace.effRomBank_mem {b : AddressSpace} (h : b.romBankCount ∈ [2, 4, 8, 32, 64, 128]) :
    1 ≤ b.effRomBank ∧ b.effRomBank ≤ b.romBankCount - 1 := by
  have hcount : 2 ≤ b.romBankCount := (by decide : ∀ count ∈ [2, 4, 8, 32, 64, 128], 2 ≤ count) _ h
  have hlt : b.romBank.toNat % b.romBankCount < b.romBankCount := Nat.mod_lt _ (by omega)
  rw [AddressSpace.effRomBank_eq h]
  split <;> omega

/-- Settles O26: the counts are powers of two, and external RAM is reached only if it is enabled and present. -/
theorem effectiveBanks : Obligations.EffectiveBanks := by
  unfold Obligations.EffectiveBanks
  refine ⟨fun b h => ⟨AddressSpace.effRomBank_eq h, AddressSpace.effRomBank_mem h⟩, fun s addr hlo hhi => ?_⟩
  have heram : regionOf addr = .eram := (regionOf_eram addr).2 ⟨hlo, hhi⟩
  refine ⟨fun hoff => ?_, fun hen hcount => ?_⟩
  · have hreach : s.bus.eramReachable = false := Bool.eq_false_iff.2 (hoff ∘ s.bus.eramReachable_iff.1)
    exact ⟨(State.peek_eram heram).trans (if_neg (by simp [hreach])), fun v => State.store_eram_off v heram hreach⟩
  · have hpresent : 0 < s.bus.ramBankCount := (by decide : ∀ count ∈ [1, 4, 8, 16], 0 < count) _ hcount
    have hreach : s.bus.eramReachable = true := s.bus.eramReachable_iff.2 ⟨hen, hpresent⟩
    have hoffset : s.bus.eramOffset addr =
        s.bus.ramBank.toNat % s.bus.ramBankCount * 0x2000 + (addr.toNat - 0xA000) :=
      congrArg (· * 0x2000 + (addr.toNat - 0xA000)) (AddressSpace.effRamBank_eq hcount)
    have hlt := s.bus.eramOffset_lt addr heram hreach
    rw [← hoffset]
    exact ⟨hlt, (State.peek_eram heram).trans (if_pos hreach), fun v => State.store_eram v heram hreach⟩

/-! ### The I/O port space (R66) -/

/-- Outside the two runs of display registers there is none. -/
theorem displayReg_eq_none {addr : Word} (h : addr.toNat < 0xFF40 ∨ addr.toNat = 0xFF46 ∨ 0xFF49 < addr.toNat) :
    displayReg addr = none := by
  unfold displayReg
  dsimp only
  repeat rw [if_neg (by omega)]

/-- Settles O27: each display register has its address, and any other address of the space is external. -/
theorem ioPorts : Obligations.IoPorts := by
  unfold Obligations.IoPorts
  intro s v
  refine ⟨⟨rfl, rfl⟩, ⟨rfl, rfl⟩, ⟨rfl, rfl⟩, ⟨rfl, rfl⟩, ⟨rfl, rfl⟩, ⟨rfl, rfl⟩, ⟨rfl, rfl⟩, ⟨rfl, rfl⟩, ⟨rfl, rfl⟩,
    fun addr hlo hhi h => ?_⟩
  have hio : regionOf addr = .io := (regionOf_io addr).2 ⟨hlo, hhi⟩
  have hnone := displayReg_eq_none h
  have hext : isExternalIo addr = true := by simp [isExternalIo, hio, hnone]
  exact ⟨State.peek_external hio hnone, if_pos hext, State.store_external v hio hnone⟩

/-! ### Storage (R63 to R65, R67, R68) -/

/-- A byte of storage reads back. -/
theorem State.peek_store_of_plain {s : State} {addr : Word} (h : plainRegion (regionOf addr) = true) (v : Byte) :
    (s.store addr v).peek addr = v := by
  cases hr : regionOf addr
  case vram => rw [State.store_vram v hr, State.peek_vram hr, Memory.get_set_same]
  case wram => rw [State.store_wram v hr, State.peek_wram hr, Memory.get_set_same]
  case echo => rw [State.store_echo v hr, State.peek_echo hr, Memory.get_set_same]
  case oam => rw [State.store_oam v hr, State.peek_oam hr, Memory.get_set_same]
  case hram => rw [State.store_hram v hr, State.peek_hram hr, Memory.get_set_same]
  case ie => rw [State.store_ie v hr, State.peek_ie hr]
  all_goals exact absurd h (by rw [hr]; decide)

theorem State.peek_store_of_eram {s : State} {addr : Word} (h : regionOf addr = .eram)
    (hreach : s.bus.eramReachable = true) (v : Byte) : (s.store addr v).peek addr = v := by
  rw [State.store_eram v h hreach, State.peek_eram h]
  exact (if_pos hreach).trans (Memory.get_set_same _ _ v)

/-- The mirror is working RAM, 0x2000 lower (R64). -/
theorem regionOf_mirrored {addr : Word} (h : regionOf addr = .echo) :
    regionOf (addr - 0x2000) = .wram ∧ (addr - 0x2000).toNat - 0xC000 = addr.toNat - 0xE000 := by
  have hecho := (regionOf_echo addr).1 h
  have hsub : (addr - 0x2000).toNat = addr.toNat - 0x2000 := by bv_omega
  exact ⟨(regionOf_wram _).2 (by omega), by omega⟩

/-- Settles O28: each region's read and store go to the same cell of the same store. -/
theorem storageReadsBack : Obligations.StorageReadsBack := by
  unfold Obligations.StorageReadsBack
  intro s addr v
  refine ⟨fun h => State.peek_store_of_plain h v, fun h hreach => State.peek_store_of_eram h hreach v, fun h => ?_,
    fun h => ⟨State.peek_unmapped h, State.store_unmapped v h⟩⟩
  obtain ⟨hwram, hoffset⟩ := regionOf_mirrored h
  refine ⟨hwram, ?_, ?_⟩
  · rw [State.peek_echo h, State.peek_wram hwram, hoffset]
  · rw [State.store_echo v h, State.store_wram v hwram, hoffset]

/-! ### Words and the stack (R75, R77, R78, 00_scope.md R15) -/

/-- A store to storage touches one other address at most, the other name of the byte 0x2000 away. -/
theorem storeTouches_of_plain {a b : Word} (h : plainRegion (regionOf a) = true) (hne : b ≠ a)
    (hup : b ≠ a + 0x2000) (hdown : b ≠ a - 0x2000) : storeTouches a b = false := by
  unfold storeTouches
  cases hr : regionOf a
  case romFixed | romBanked | eram | unmapped | io => exact absurd h (by rw [hr]; decide)
  all_goals
    simp only [decide_eq_false hne, decide_eq_false hup, decide_eq_false hdown, Bool.and_false, Bool.or_false]

/-- The two bytes of a word do not touch each other. -/
theorem storeTouches_next {a : Word} (h : plainRegion (regionOf (a + 1)) = true) :
    storeTouches (a + 1) a = false :=
  storeTouches_of_plain h (by bv_omega) (by bv_omega) (by bv_omega)

theorem storeTouches_previous {a : Word} (h : plainRegion (regionOf a) = true) : storeTouches a (a + 1) = false :=
  storeTouches_of_plain h (by bv_omega) (by bv_omega) (by bv_omega)

theorem isExternalIo_of_plain {a : Word} (h : plainRegion (regionOf a) = true) : isExternalIo a = false := by
  unfold isExternalIo
  cases hr : regionOf a
  case io => exact absurd h (by rw [hr]; decide)
  all_goals rfl

/-- A word read where both bytes are storage is made of the two bytes as they stand. -/
theorem State.peekWord_of_plain {s : State} {a : Word} (h : plainRegion (regionOf (a + 1)) = true) :
    s.peekWord a = mkWord (s.peek (a + 1)) (s.peek a) := by
  rw [State.peekWord, State.afterRead_peek s a (isExternalIo_of_plain h)]

theorem State.storeWord_peek_of_plain {s : State} {a : Word} (h : plainRegion (regionOf a) = true)
    (h' : plainRegion (regionOf (a + 1)) = true) (v : Word) :
    (s.storeWord a v).peek a = loByte v ∧ (s.storeWord a v).peek (a + 1) = hiByte v :=
  ⟨(State.store_peek_other _ _ (storeTouches_next h')).trans (State.peek_store_of_plain h _),
    State.peek_store_of_plain h' _⟩

/-- A push reads as its two stores, high byte first. -/
theorem State.push16_peek_of_plain {s : State} (h1 : plainRegion (regionOf (s.regs.sp - 1)) = true)
    (h2 : plainRegion (regionOf (s.regs.sp - 2)) = true) (v : Word) :
    (s.push16 v).peek (s.regs.sp - 1) = hiByte v ∧ (s.push16 v).peek (s.regs.sp - 2) = loByte v := by
  obtain ⟨hb, hd, hh⟩ := s.push16_memory v
  have hnext : s.regs.sp - 2 + 1 = s.regs.sp - 1 := by bv_omega
  have htouch : storeTouches (s.regs.sp - 2) (s.regs.sp - 1) = false := hnext ▸ storeTouches_previous h2
  rw [State.peek_congr hb hd hh, State.peek_congr hb hd hh]
  exact ⟨(State.store_peek_other _ _ htouch).trans (State.peek_store_of_plain h1 _), State.peek_store_of_plain h2 _⟩

theorem State.push16_regs (s : State) (v : Word) : (s.push16 v).regs = { s.regs with sp := s.regs.sp - 2 } := by
  have hsp : s.regs.sp - 1 - 1 = s.regs.sp - 2 := by bv_omega
  rw [State.push16_eq, State.store_regs, hsp]
  simp [State.setSp]

theorem State.afterPop16_regs (s : State) : s.afterPop16.regs = { s.regs with sp := s.regs.sp + 2 } := by
  rw [State.afterPop16_eq]
  simp [State.setSp]

/-- Settles O29: the two bytes of a word lie apart, so that each reads back, and `pop16` reads the word at SP. -/
theorem wordsAndStack : Obligations.WordsAndStack := by
  unfold Obligations.WordsAndStack
  intro s addr v
  refine ⟨fun h h' => ?_, fun h1 h2 => ?_⟩
  · obtain ⟨hlo, hhi⟩ := State.storeWord_peek_of_plain (s := s) h h' v
    exact ⟨hlo, hhi, by rw [State.peekWord_of_plain h', hlo, hhi, mkWord_halves]⟩
  · obtain ⟨hhi, hlo⟩ := State.push16_peek_of_plain h1 h2 v
    have hnext : s.regs.sp - 2 + 1 = s.regs.sp - 1 := by bv_omega
    have hback : s.regs.sp - 2 + 2 = s.regs.sp := by bv_omega
    refine ⟨s.push16_regs v, hhi, hlo, ?_, ?_⟩
    · rw [State.pop16_eq, State.push16_sp, State.peekWord_of_plain (hnext.symm ▸ h1), hnext, hhi, hlo, mkWord_halves]
    · rw [State.afterPop16_regs, State.push16_regs]
      simp only [hback]

end Sys2Proof.Machine
end

section
/-! Construction, the only reset (70_reset_and_hazards.md R330 to R334). A block that is built at all differs from another
only in its address space, and that address space is a function of the image, the initial contents and the two bank
counts of the header (20_memory.md R73). -/

namespace Sys2Proof.Machine

/-- The block built with address space `b`. -/
def State.launched (b : AddressSpace) : State where
  regs := Regs.reset
  bus := b
  display := Display.reset
  ioHistory := []
  outcome := none

/-! ### The header (R73) -/

theorem romBanksOf_eq (code : Byte) : romBanksOf code = [2, 4, 8, 32, 64, 128][code.toNat]? := by
  revert code
  decide

theorem ramBanksOf_eq (code : Byte) : ramBanksOf code = [0, 1, 1, 4, 16, 8][code.toNat]? := by
  revert code
  decide

/-- A construction that succeeds had an image, and bank counts of the header tables. -/
theorem construct_ok {load : HostLoad} {init : MemInit} {s : State} (h : construct load init = .ok s) :
    ∃ bytes rom ram, rom ∈ [2, 4, 8, 32, 64, 128] ∧ ram ∈ [0, 1, 4, 16, 8] ∧
      s = State.launched (AddressSpace.construct bytes init rom ram) := by
  cases load with
  | openFailed => cases h
  | allocFailed => cases h
  | image bytes =>
    unfold construct at h
    dsimp only at h
    split at h
    · cases h
    · split at h
      · next rom ram hrom hram =>
        rw [romBanksOf_eq] at hrom
        rw [ramBanksOf_eq] at hram
        cases h
        exact ⟨bytes, rom, ram, List.mem_of_getElem? hrom,
          (by decide : [0, 1, 1, 4, 16, 8] ⊆ [0, 1, 4, 16, 8]) (List.mem_of_getElem? hram), rfl⟩
      · cases h

theorem construct_of_counts {bytes : List Byte} {init : MemInit} {rom ram : Nat} (hlen : 0x014A ≤ bytes.length)
    (hrom : romBanksOf (bytes.getD 0x0148 0) = some rom) (hram : ramBanksOf (bytes.getD 0x0149 0) = some ram) :
    construct (.image bytes) init = .ok (State.launched (AddressSpace.construct bytes init rom ram)) := by
  unfold construct
  dsimp only
  rw [if_neg (Nat.not_lt.mpr hlen), hrom, hram]
  rfl

theorem construct_of_badCode {bytes : List Byte} {init : MemInit} (hlen : 0x014A ≤ bytes.length)
    (h : romBanksOf (bytes.getD 0x0148 0) = none ∨ ramBanksOf (bytes.getD 0x0149 0) = none) :
    construct (.image bytes) init = .error .headerCodeOutOfRange := by
  unfold construct
  dsimp only
  rw [if_neg (Nat.not_lt.mpr hlen)]
  split
  · next hrom hram => exact absurd h (by rw [hrom, hram]; nofun)
  · rfl

theorem getElem?_eq_some_getD {l : List Nat} {i : Nat} (h : i < l.length) : l[i]? = some (l.getD i 0) := by
  rw [List.getElem?_eq_getElem h, List.getD_eq_getElem]

/-- Settles O3: `construct` goes down the failures in order, and the header tables are lists of six counts. -/
theorem headerDecoding : Obligations.HeaderDecoding := by
  unfold Obligations.HeaderDecoding
  intro init
  refine ⟨rfl, rfl, fun bytes => ⟨fun hlen => if_pos hlen, fun hlen => ⟨fun hcode => ?_, fun hrom hram => ?_⟩⟩⟩
  · refine construct_of_badCode hlen ?_
    rw [romBanksOf_eq, ramBanksOf_eq]
    exact hcode.imp List.getElem?_eq_none List.getElem?_eq_none
  · have hr := (romBanksOf_eq _).trans (getElem?_eq_some_getD (Nat.lt_succ_of_le hrom))
    have hm := (ramBanksOf_eq _).trans (getElem?_eq_some_getD (Nat.lt_succ_of_le hram))
    exact ⟨_, construct_of_counts hlen hr hm, rfl, rfl⟩

/-! ### The block right after construction -/

theorem syncedStat_reset : syncedStat Display.reset = Display.reset.stat := by decide

theorem advance_zero_launched (b : AddressSpace) : advance 0 (State.launched b) = State.launched b := by
  have hbelow : (State.launched b).display.modeClock + 0 < threshold (State.launched b).display.mode :=
    (by decide : 0 < threshold .oamScan)
  rw [advance_of_lt hbelow]
  exact congrArg (fun stat => { State.launched b with display.stat := stat }) syncedStat_reset

/-- Settles O1: the registers and the display do not depend on the image, and STAT is synchronized already. -/
theorem constructedRegisters : Obligations.ConstructedRegisters := by
  unfold Obligations.ConstructedRegisters
  intro load init s h
  obtain ⟨bytes, rom, ram, -, -, rfl⟩ := construct_ok h
  exact ⟨⟨rfl, rfl, rfl, rfl, rfl, rfl, rfl, rfl, rfl, rfl, rfl, rfl, rfl⟩,
    ⟨rfl, rfl, rfl, rfl, rfl, rfl, rfl, rfl, rfl, rfl, rfl, fun _ _ => rfl, rfl⟩, advance_zero_launched _⟩

/-- ROM bank 1 is the effective bank of every image. -/
theorem effRomBank_construct (bytes : List Byte) (init : MemInit) {rom : Nat} (ram : Nat)
    (h : rom ∈ [2, 4, 8, 32, 64, 128]) : (AddressSpace.construct bytes init rom ram).effRomBank = 1 := by
  have hone : 1 % rom = 1 := Nat.mod_eq_of_lt ((by decide : ∀ count ∈ [2, 4, 8, 32, 64, 128], 1 < count) _ h)
  rw [AddressSpace.effRomBank_eq h]
  show (if 1 % rom = 0 then 1 else 1 % rom) = 1
  rw [hone]
  rfl

theorem eramReachable_construct (bytes : List Byte) (init : MemInit) (rom ram : Nat) :
    (AddressSpace.construct bytes init rom ram).eramReachable = false := rfl

theorem get_ofFn_of_lt {w n a : Nat} (f : Nat → BitVec w) (h : a < n) : Memory.get (Memory.ofFn n f) a = f a :=
  (Memory.get_ofFn n f a).trans (if_pos h)

/-- Settles O2: the latches are clear and each storage region is the store of its initial contents. -/
theorem constructedAddressSpace : Obligations.ConstructedAddressSpace := by
  unfold Obligations.ConstructedAddressSpace
  intro load init s h
  obtain ⟨bytes, rom, ram, hrom, -, rfl⟩ := construct_ok h
  refine ⟨rfl, rfl, rfl, rfl, effRomBank_construct bytes init ram hrom, fun a ha => ?_, rfl,
    fun i hi => ⟨get_ofFn_of_lt _ hi, get_ofFn_of_lt _ hi⟩, fun i hi => get_ofFn_of_lt _ hi,
    fun i hi => get_ofFn_of_lt _ hi, fun i hi => get_ofFn_of_lt _ hi⟩
  exact (State.peek_eram ha).trans (if_neg (by simp [State.launched, eramReachable_construct]))

theorem storeWf_ofFn {w : Nat} (n : Nat) (f : Nat → BitVec w) : storeWf n (Memory.ofFn n f) = true := by
  rw [storeWf, Memory.wf_ofFn, Memory.below_ofFn]
  rfl

/-- Settles O17: every store is built canonical and inside its region, and the rest is fixed or of the header tables. -/
theorem constructedInvariant : Obligations.ConstructedInvariant := by
  unfold Obligations.ConstructedInvariant
  intro load init s h
  obtain ⟨bytes, rom, ram, hrom, hram, rfl⟩ := construct_ok h
  have hflags : State.reset.flagsWf = true := by decide
  have hdisplay : State.reset.displayWf = true := by decide
  have hbank : (1 : BitVec 7).toNat % 32 ≠ 0 := by decide
  refine (State.inv_iff _).2 ⟨?_, hflags, (State.banksWf_iff _).2 ⟨hrom, hram, hbank⟩, hdisplay⟩
  simp only [State.memoryWf, State.launched, AddressSpace.construct, storeWf_ofFn, Bool.true_and]
  rfl

/-! ### The model's reset state -/

/-- `MEM_INIT` of zeros. -/
def MemInit.zero : MemInit where
  vram := fun _ => 0
  wram := fun _ => 0
  hram := fun _ => 0
  oam := fun _ => 0
  eram := fun _ => 0

theorem getD_replicate_zero (n i : Nat) : (List.replicate n (0 : Byte)).getD i 0 = 0 := by
  rw [List.getD_eq_getElem?_getD, List.getElem?_replicate]
  split <;> rfl

/-- Zero contents are empty stores, whatever the length of the image of zeros. -/
theorem construct_zeroBus (n : Nat) :
    AddressSpace.construct (List.replicate n 0) .zero 2 0 = { AddressSpace.reset with cartLen := n } := by
  simp only [AddressSpace.construct, MemInit.zero, getD_replicate_zero, Memory.ofFn_zero _ _ fun _ => rfl,
    List.length_replicate]
  rfl

/-- Settles O4: an image of zeros has header codes 0 and 0, and gives the empty stores of `State.reset`. -/
theorem resetIsZeroImage : Obligations.ResetIsZeroImage := by
  unfold Obligations.ResetIsZeroImage
  generalize hn : 0x8000 = n
  rw [construct_of_counts (rom := 2) (ram := 0) (by rw [List.length_replicate]; omega)
    (by rw [getD_replicate_zero]; rfl) (by rw [getD_replicate_zero]; rfl)]
  subst hn
  exact congrArg (Except.ok ∘ State.launched) (construct_zeroBus 0x8000)

end Sys2Proof.Machine
end

section
/-! The orchestrator's run (60_exceptions.md R315, R316): a step always answers a next state, with one of three outcomes,
and the run goes on after a completed instruction only. -/

namespace Sys2Proof.Machine

@[simp] theorem afterStep_outcome (s : State) : (afterStep s).outcome = s.outcome := by
  unfold afterStep
  split
  · exact advance_outcome _ s
  · rfl

@[simp] theorem afterStep_regs (s : State) : (afterStep s).regs = s.regs := by
  unfold afterStep
  split
  · exact advance_regs _ s
  · rfl

/-- The three outcomes of a step. -/
theorem step_outcome (s : State) :
    ∃ t, step s = .next t ∧ ((∃ n, t.outcome = some (.cycles n)) ∨
      (t.outcome = some .halted ∧ t.regs.halted = true) ∨ t.outcome = some .unimplementedOpcode) := by
  obtain ⟨u, hu, ho⟩ := oneOutcome s
  refine ⟨afterStep u, step_of_engineStep hu, ?_⟩
  rw [afterStep_outcome, afterStep_regs]
  rcases ho with ⟨n, -, ho, -⟩ | ho | ⟨ho, -⟩
  · exact .inl ⟨n, ho⟩
  · exact .inr (.inl ho)
  · exact .inr (.inr ho)

/-! ### A run, by the outcome of its first step -/

section
variable {s t : State} (h : step s = .next t) (fuel : Nat)
include h

theorem run_succ_of_cycles {n : Nat} (ho : t.outcome = some (.cycles n)) :
    run (fuel + 1) s = ((run fuel t).1, presented s t ++ (run fuel t).2) := by
  rw [run, h]
  dsimp only
  rw [ho]

theorem run_succ_of_halted (ho : t.outcome = some .halted) : run (fuel + 1) s = (.halted t, []) := by
  rw [run, h]
  dsimp only
  rw [ho]

theorem run_succ_of_unimplemented (ho : t.outcome = some .unimplementedOpcode) :
    run (fuel + 1) s = (.unimplementedOpcode t, []) := by
  rw [run, h]
  dsimp only
  rw [ho]

end

/-- What the end of a run from `s` with this fuel says of its final state; out of fuel, that state is the one the run
began with where there was none. -/
def EndsBy (fuel : Nat) (s : State) : RunEnd → Prop
  | .halted t => t.outcome = some .halted ∧ t.regs.halted = true
  | .unimplementedOpcode t => t.outcome = some .unimplementedOpcode
  | .outOfFuel t => (fuel = 0 ∧ t = s) ∨ ∃ n, t.outcome = some (.cycles n)
  | .stopped => False

/-- After a completed step the run ends as it does from there. -/
theorem EndsBy.of_cycles {fuel n : Nat} {s t : State} {e : RunEnd} (h : EndsBy fuel t e)
    (ho : t.outcome = some (.cycles n)) : EndsBy (fuel + 1) s e := by
  cases e with
  | halted => exact h
  | unimplementedOpcode => exact h
  | outOfFuel u =>
    rcases h with ⟨-, rfl⟩ | h
    · exact .inr ⟨n, ho⟩
    · exact .inr h
  | stopped => exact h

theorem run_endsBy (fuel : Nat) (s : State) : EndsBy fuel s (run fuel s).1 := by
  induction fuel generalizing s with
  | zero => exact .inl ⟨rfl, rfl⟩
  | succ fuel ih =>
    obtain ⟨t, ht, ⟨n, ho⟩ | ho | ho⟩ := step_outcome s
    · rw [run_succ_of_cycles ht fuel ho]
      exact (ih t).of_cycles ho
    · rw [run_succ_of_halted ht fuel ho.1]
      exact ho
    · rw [run_succ_of_unimplemented ht fuel ho]
      exact ho

/-- More fuel does not change a run that has ended. -/
theorem run_add (fuel more : Nat) (s : State) (h : ∀ t, (run fuel s).1 ≠ .outOfFuel t) :
    run (fuel + more) s = run fuel s := by
  induction fuel generalizing s with
  | zero => exact absurd rfl (h s)
  | succ fuel ih =>
    rw [Nat.add_right_comm]
    obtain ⟨t, ht, ⟨n, ho⟩ | ho | ho⟩ := step_outcome s
    · rw [run_succ_of_cycles ht fuel ho] at h
      rw [run_succ_of_cycles ht _ ho, run_succ_of_cycles ht _ ho, ih t h]
    · rw [run_succ_of_halted ht _ ho.1, run_succ_of_halted ht _ ho.1]
    · rw [run_succ_of_unimplemented ht _ ho, run_succ_of_unimplemented ht _ ho]

/-- Settles O14: how the run ends is `EndsBy`, case by case, and the rest is `run_add`. -/
theorem runEndsByOutcome : Obligations.RunEndsByOutcome := by
  unfold Obligations.RunEndsByOutcome
  intro fuel s
  have hend := run_endsBy fuel s
  refine ⟨fun h => ?_, fun t h => ?_, fun t h => ?_, fun t h => ?_, fun more => run_add fuel more s⟩ <;> rw [h] at hend
  · exact hend
  · exact hend
  · exact hend
  · exact hend.imp_left And.left

end Sys2Proof.Machine
end

section
/-! What DAA is for (41_alu8.md R199): after ADD or SUB of two binary-coded decimal bytes it makes up for the six codes of
each nibble that are no digit. Everything is said of the two digits of each number. -/

namespace Sys2Proof.Machine

/-! ### Digits -/

theorem bcd_toNat {x : Nat} (h : x < 100) : (bcd x).toNat = 16 * (x / 10) + x % 10 := by
  have htens : x / 10 % 10 = x / 10 := Nat.mod_eq_of_lt (by omega)
  rw [bcd, htens, BitVec.toNat_ofNat]
  exact Nat.mod_eq_of_lt (by omega)

theorem decimal_digits {x : Nat} (h : x < 100) :
    ∃ p q, p < 10 ∧ q < 10 ∧ x = 10 * p + q ∧ (bcd x).toNat = 16 * p + q :=
  ⟨x / 10, x % 10, by omega, by omega, by omega, bcd_toNat h⟩

/-- A byte is the code of a number if it has the digits of the number in its nibbles. -/
theorem ofInt8_eq_bcd {v : Int} {x : Nat} (hx : x < 100)
    (h : ∀ p q : Nat, p < 10 → q < 10 → x = 10 * p + q → v % 256 = 16 * p + q) : BitVec.ofInt 8 v = bcd x := by
  obtain ⟨p, q, hp, hq, rfl, hcode⟩ := decimal_digits hx
  have hv := h p q hp hq rfl
  rw [← ofInt8_toNat] at hv
  exact BitVec.eq_of_toNat_eq (by omega)

section
variable {p q r t u v : Nat} (hp : p < 10) (hq : q < 10) (hr : r < 10) (ht : t < 10) (hv : v < 10)
include hp hq hr ht hv

/-- Column addition of two numbers of two digits. -/
theorem digits_of_sum (h : (10 * p + q + (10 * r + t)) % 100 = 10 * u + v) :
    u + (if 100 ≤ 10 * p + q + (10 * r + t) then 10 else 0) = p + r + (if 10 ≤ q + t then 1 else 0) ∧
      v + (if 10 ≤ q + t then 10 else 0) = q + t := by
  split <;> split <;> omega

/-- Column subtraction of two numbers of two digits. -/
theorem digits_of_difference (h : (100 + (10 * p + q) - (10 * r + t)) % 100 = 10 * u + v) :
    u + r + (if q < t then 1 else 0) = p + (if 10 * p + q < 10 * r + t then 10 else 0) ∧
      v + t = q + (if q < t then 10 else 0) := by
  split <;> split <;> omega

end

/-! ### The adjustment as one sum -/

/-- After an addition DAA adds 0x60 where it leaves a carry, and 6 where the low digit needs it. -/
theorem daaValue_add (a : Nat) (h c : Bool) :
    daaValue a false h c =
      a + (if daaCarry a false c = true then 0x60 else 0) + (if daaHalf a false h c = true then 6 else 0) := by
  simp only [daaValue, daaHigh, Bool.false_eq_true, if_false]
  split <;> split <;> simp

/-- After a subtraction DAA takes 0x60 off where there was a borrow, and 6 where there was one of the low nibble. -/
theorem daaValue_sub (a : Nat) (h c : Bool) :
    daaValue a true h c = a - (if c = true then 0x60 else 0) - (if h = true then 6 else 0) := by
  simp only [daaValue, daaHalf, daaHigh, daaCarry, if_true]
  split <;> split <;> simp

section
variable {p q r t : Nat} (hq : q < 10) (ht : t < 10)
include hq ht

/-- The carry out of the decimal sum, from the carry of ADD or from a sum above 0x99. -/
theorem daaCarry_sum :
    daaCarry ((16 * p + q + (16 * r + t)) % 256) false (decide (16 * p + q + (16 * r + t) > 0xFF)) =
      decide (100 ≤ 10 * p + q + (10 * r + t)) := by
  rw [daaCarry, if_neg Bool.false_ne_true, ← Bool.decide_or, decide_eq_decide]
  omega

/-- The carry out of the low digit: the adjustment by 0x60 does not reach the low nibble. -/
theorem daaHalf_sum :
    daaHalf ((16 * p + q + (16 * r + t)) % 256) false (decide (q + t > 0xF))
      (decide (16 * p + q + (16 * r + t) > 0xFF)) = decide (10 ≤ q + t) := by
  rw [daaHalf, if_neg Bool.false_ne_true, ← Bool.decide_or, decide_eq_decide, daaHigh, daaCarry_sum hq ht]
  simp only [decide_eq_true_eq, Bool.false_eq_true, if_false]
  split <;> omega

end

/-! ### ADD and SUB of two codes -/

theorem daaAdjust_add8_bcd {x y : Nat} (hx : x < 100) (hy : y < 100) :
    daaAdjust (add8 (bcd x) (bcd y) false).res false (add8 (bcd x) (bcd y) false).h (add8 (bcd x) (bcd y) false).c =
      (bcd ((x + y) % 100), decide (100 ≤ x + y)) := by
  obtain ⟨p, q, hp, hq, rfl, hbx⟩ := decimal_digits hx
  obtain ⟨r, t, hr, ht, rfl, hby⟩ := decimal_digits hy
  have hnibbles : (16 * p + q) % 16 + (16 * r + t) % 16 = q + t := by omega
  simp only [add8, nibble, hbx, hby, hnibbles, Bool.toNat_false, Nat.add_zero]
  refine Prod.ext ?_ ?_
  · rw [daaAdjust_value, BitVec.toNat_ofNat, daaValue_add, daaCarry_sum hq ht, daaHalf_sum hq ht]
    refine ofInt8_eq_bcd (Nat.mod_lt _ (by decide)) fun u v hu hv hdigits => ?_
    obtain ⟨htens, hunits⟩ := digits_of_sum hp hq hr ht hv hdigits
    simp only [decide_eq_true_eq]
    split_ifs at htens hunits ⊢ <;> omega
  · rw [daaAdjust_carry, BitVec.toNat_ofNat]
    exact daaCarry_sum hq ht

theorem daaAdjust_sub8_bcd {x y : Nat} (hx : x < 100) (hy : y < 100) :
    daaAdjust (sub8 (bcd x) (bcd y) false).res true (sub8 (bcd x) (bcd y) false).h (sub8 (bcd x) (bcd y) false).c =
      (bcd ((100 + x - y) % 100), decide (x < y)) := by
  obtain ⟨p, q, hp, hq, rfl, hbx⟩ := decimal_digits hx
  obtain ⟨r, t, hr, ht, rfl, hby⟩ := decimal_digits hy
  have hlow : ((16 * p + q) % 16 < (16 * r + t) % 16) = (q < t) := propext (by omega)
  have hborrow : (16 * p + q < 16 * r + t) = (10 * p + q < 10 * r + t) := propext (by omega)
  simp only [sub8, nibble, hbx, hby, hlow, hborrow, Bool.toNat_false, Nat.add_zero]
  refine Prod.ext ?_ ?_
  · rw [daaAdjust_value, daaValue_sub, ofInt8_toNat]
    refine ofInt8_eq_bcd (Nat.mod_lt _ (by decide)) fun u v hu hv hdigits => ?_
    obtain ⟨htens, hunits⟩ := digits_of_difference hp hq hr ht hv hdigits
    simp only [decide_eq_true_eq]
    split_ifs at htens hunits ⊢ <;> omega
  · rw [daaAdjust_carry]
    rfl

/-- DAA run after an ALU operation that left A and the flags of `r`. -/
theorem exec_daa_of_writesResult {r : AluResult} {s t : State} (h : WritesResult r s t) {a : Byte} {c : Bool}
    (hd : daaAdjust r.res r.n r.h r.c = (a, c)) : ∃ u, exec .daa t = .next u ∧ u.regs.a = a ∧ u.fc = c := by
  obtain ⟨ha, ⟨-, hn, hh, hc, -⟩, -⟩ := h
  refine ⟨_, exec_daa t, ?_, ?_⟩
  · simp [ha, hn, hh, hc, hd]
  · simp [ha, hn, hh, hc, hd]

/-- Settles O41: the operation leaves the result and flags of `add8` or `sub8`, and DAA adjusts them. -/
theorem decimalAdjustCorrects : Obligations.DecimalAdjustCorrects := by
  unfold Obligations.DecimalAdjustCorrects
  intro s x y hx hy ha
  obtain ⟨t, het, -, hadd, -⟩ := completes_aluImm .add (bcd y) s
  obtain ⟨t', het', -, hsub, -⟩ := completes_aluImm .sub (bcd y) s
  have hadd' : WritesResult (add8 (bcd x) (bcd y) false) s t := ha ▸ hadd
  have hsub' : WritesResult (sub8 (bcd x) (bcd y) false) s t' := ha ▸ hsub
  obtain ⟨u, heu, hu⟩ := exec_daa_of_writesResult hadd' (daaAdjust_add8_bcd hx hy)
  obtain ⟨u', heu', hu'⟩ := exec_daa_of_writesResult hsub' (daaAdjust_sub8_bcd hx hy)
  exact ⟨⟨t, u, het, heu, hu⟩, ⟨t', u', het', heu', hu'⟩⟩

end Sys2Proof.Machine
end

section
/-! The graphics timer over a longer time (60_exceptions.md R300 to R314). Two advances are one, because no transition
reads STAT, which is all that the end of an advance writes; so a line and a frame are counted off in steps of 456 units. -/

namespace Sys2Proof.Machine

/-! ### What an advance keeps (R312, R313) -/

/-- The display registers that the timer does not write. -/
def SameRegisters (d e : Display) : Prop :=
  e.lcdc = d.lcdc ∧ e.scy = d.scy ∧ e.scx = d.scx ∧ e.lyc = d.lyc ∧ e.bgp = d.bgp ∧ e.obp0 = d.obp0 ∧ e.obp1 = d.obp1

theorem SameRegisters.refl (d : Display) : SameRegisters d d := ⟨rfl, rfl, rfl, rfl, rfl, rfl, rfl⟩

theorem SameRegisters.trans {c d e : Display} (h : SameRegisters c d) (k : SameRegisters d e) : SameRegisters c e := by
  obtain ⟨h1, h2, h3, h4, h5, h6, h7⟩ := h
  obtain ⟨k1, k2, k3, k4, k5, k6, k7⟩ := k
  exact ⟨k1.trans h1, k2.trans h2, k3.trans h3, k4.trans h4, k5.trans h5, k6.trans h6, k7.trans h7⟩

theorem transition_sameRegisters (s : State) : SameRegisters s.display (transition s).display := by
  obtain ⟨-, -, -, -, -, hlyc, hscy, hscx, hbgp, hlcdc, hobp0, hobp1⟩ := transition_keeps s
  exact ⟨hlcdc, hscy, hscx, hlyc, hbgp, hobp0, hobp1⟩

theorem advance_sameRegisters (n : Nat) (s : State) : SameRegisters s.display (advance n s).display :=
  transitions_induct (P := fun t => SameRegisters s.display t.display)
    (fun t _ ht => ht.trans (transition_sameRegisters t)) (s.display.modeClock + n)
    (setModeClock s (s.display.modeClock + n)) (.refl s.display)

theorem advance_stat (n : Nat) (s : State) :
    (advance n s).display.stat.toNat =
      8 * (s.display.stat.toNat / 8) + (if (advance n s).display.ly = (advance n s).display.lyc then 4 else 0) +
        (modeNumber (advance n s).display.mode).toNat := by
  obtain ⟨-, -, -, -, hstat, -⟩ := transitions_keeps (s.display.modeClock + n)
    (setModeClock s (s.display.modeClock + n))
  have hsync := syncedStat_toNat (transitions (s.display.modeClock + n)
    (setModeClock s (s.display.modeClock + n))).display
  rw [hstat] at hsync
  exact hsync

/-- Settles O53: the frame of a transition, the synchronized STAT as a number, and the end of the loop. -/
theorem advanceScope : Obligations.AdvanceScope := by
  unfold Obligations.AdvanceScope
  intro n s t
  refine ⟨⟨advance_regs n s, advance_bus n s, advance_ioHistory n s, advance_outcome n s, advance_sameRegisters n s⟩,
    ?_, ?_⟩
  · refine (advance_stat n s).trans (Nat.add_left_cancel_iff.2 ?_)
    show (modeNumber t.display.mode).toNat = _
    cases t.display.mode <;> rfl
  · refine Nat.lt_of_lt_of_le (advance_modeClock_lt n s) (Nat.le_of_eq ?_)
    show threshold t.display.mode = _
    cases t.display.mode <;> rfl

/-! ### STAT is read by no transition -/

/-- `s` with STAT `v`. -/
def State.withStat (s : State) (v : Byte) : State := { s with display.stat := v }

section
variable (s : State) (v : Byte)

@[simp] theorem setModeClock_withStat (n : Nat) :
    setModeClock (s.withStat v) n = (setModeClock s n).withStat v := rfl

@[simp] theorem setMode_withStat (m : Mode) : setMode (s.withStat v) m = (setMode s m).withStat v := rfl

@[simp] theorem rasterize_withStat : rasterize (s.withStat v) = (rasterize s).withStat v := by
  have hrow : ∀ y n, rasterizeRow (s.withStat v) y n = rasterizeRow s y n := rasterizeRow_congr rfl rfl rfl rfl rfl
  have hly : (s.withStat v).display.ly = s.display.ly := rfl
  unfold rasterize
  rw [hrow, hly]
  generalize rasterizeRow s s.display.ly.toNat 160 = fb
  rfl

@[simp] theorem hblankEnd_withStat : hblankEnd (s.withStat v) = (hblankEnd s).withStat v := rfl

@[simp] theorem vblankLine_withStat : vblankLine (s.withStat v) = (vblankLine s).withStat v := by
  have hly : (s.withStat v).display.ly = s.display.ly := rfl
  unfold vblankLine
  rw [hly]
  split <;> rfl

theorem transition_withStat : transition (s.withStat v) = (transition s).withStat v := by
  have hmode : (s.withStat v).display.mode = s.display.mode := rfl
  have hclock : (s.withStat v).display.modeClock = s.display.modeClock := rfl
  unfold transition
  rw [hmode, hclock]
  cases s.display.mode <;> simp

end

theorem transitions_withStat (fuel : Nat) (s : State) (v : Byte) :
    transitions fuel (s.withStat v) = (transitions fuel s).withStat v := by
  induction fuel generalizing s with
  | zero => rfl
  | succ n ih =>
    rw [transitions, transitions, transition_withStat, ih]
    exact (apply_ite (State.withStat · v) _ _ _).symm

/-- Synchronizing overwrites what another synchronization wrote. -/
theorem syncStatus_withStat {s : State} {v : Byte} (h : v.toNat / 8 = s.display.stat.toNat / 8) :
    syncStatus (s.withStat v) = syncStatus s :=
  congrArg (State.withStat s) (syncedStat_congr (d := s.display) (e := (s.withStat v).display) h rfl rfl rfl)

theorem advance_syncStatus (n : Nat) (s : State) : advance n (syncStatus s) = advance n s := by
  obtain ⟨-, -, -, -, hstat, -⟩ := transitions_keeps (s.display.modeClock + n)
    (setModeClock s (s.display.modeClock + n))
  calc advance n (s.withStat (syncedStat s.display))
      = syncStatus ((transitions (s.display.modeClock + n)
          (setModeClock s (s.display.modeClock + n))).withStat (syncedStat s.display)) :=
        congrArg syncStatus (transitions_withStat (s.display.modeClock + n)
          (setModeClock s (s.display.modeClock + n)) (syncedStat s.display))
    _ = advance n s := syncStatus_withStat (by rw [syncedStat_div, hstat, setModeClock_stat])

/-! ### Two advances are one -/

/-- An advance depends on the sum of the clock and the count. -/
theorem advance_setModeClock {m k c : Nat} {s : State} (h : c + m = s.display.modeClock + k) :
    advance m (setModeClock s c) = advance k s := by
  unfold advance
  rw [setModeClock_modeClock, h]
  rfl

theorem advance_advance (m n : Nat) (s : State) : advance m (advance n s) = advance (n + m) s := by
  obtain ⟨clock, hclock⟩ : ∃ clock, clock = s.display.modeClock + n := ⟨_, rfl⟩
  induction clock using Nat.strong_induction_on generalizing n s with
  | _ clock ih =>
    by_cases hlt : s.display.modeClock + n < threshold s.display.mode
    · rw [advance_of_lt hlt, advance_syncStatus]
      exact advance_setModeClock (Nat.add_assoc _ _ _)
    · have hpos := threshold_pos s.display.mode
      have hle : threshold s.display.mode ≤ s.display.modeClock + n := Nat.le_of_not_lt hlt
      have hsum : s.display.modeClock + (n + m) - threshold s.display.mode =
          s.display.modeClock + n - threshold s.display.mode + m := by omega
      rw [advance_of_le rfl hle rfl, advance_of_le (n := n + m) rfl (by omega) rfl, hsum]
      exact ih (s.display.modeClock + n - threshold s.display.mode) (by omega) _ _
        (by rw [setModeClock_modeClock, Nat.zero_add])

/-- Settles O55: the first advance either adds to the clock only, or shares its first transition with the whole one. -/
theorem advanceAdditive : Obligations.AdvanceAdditive := by
  unfold Obligations.AdvanceAdditive
  exact advance_advance

/-! ### The end of pixel transfer (R308 to R310) -/

theorem leaveMode_pixelTransfer {s : State} (h : s.display.mode = .pixelTransfer) :
    leaveMode s = setMode (rasterize s) .hblank := by
  rw [leaveMode, h]

theorem get_rasterized (s : State) {y x : Nat} (hx : x < 160) :
    Memory.get (rasterizeRow s s.display.ly.toNat 160) (fbKey y x) =
      if y = s.display.ly.toNat then pixelShade s y x else Memory.get s.display.fb (fbKey y x) := by
  rw [get_rasterizeRow s _ 160 (Nat.le_refl _), fbKey]
  by_cases hy : y = s.display.ly.toNat
  · rw [if_pos hy, if_pos (by omega), ← hy, Nat.add_sub_cancel_left]
  · rw [if_neg hy, if_neg (by omega)]

/-- An advance into horizontal blank and not out of it rasterizes the line LY. -/
theorem advance_rasterizes {n : Nat} {s : State} (hm : s.display.mode = .pixelTransfer)
    (hle : 172 ≤ s.display.modeClock + n) (hlt : s.display.modeClock + n < 172 + 204) :
    (advance n s).display.fb = rasterizeRow s s.display.ly.toNat 160 := by
  rw [advance_of_le (congrArg threshold hm) hle rfl, leaveMode_pixelTransfer hm, advance_of_lt]
  · rfl
  · rw [setModeClock_modeClock, setModeClock_mode, setMode_mode]
    show 0 + (s.display.modeClock + n - 172) < 204
    omega

theorem paletteShade_eq_ofNat (bgp : Byte) (ci : Nat) :
    paletteShade bgp ci = BitVec.ofNat 2 (bgp.toNat / 4 ^ ci) := by
  apply BitVec.eq_of_toNat_eq
  rw [paletteShade_toNat, BitVec.toNat_ofNat]

/-- A bit of a plane byte as a number. -/
theorem toNat_getLsbD (v : Byte) (i : Nat) : (v.getLsbD i).toNat = v.toNat / 2 ^ i % 2 := Nat.toNat_testBit v.toNat i

/-- The byte of video RAM that a map or tile address names. -/
theorem peek_vram_of {s : State} {a n : Nat} (ha : a = 0x8000 + n) (h : n < 0x2000) :
    s.peek (BitVec.ofNat 16 a) = Memory.get s.bus.vram n := by
  have hn : (BitVec.ofNat 16 a).toNat = 0x8000 + n := by
    rw [BitVec.toNat_ofNat]
    omega
  rw [State.peek_vram ((regionOf_vram _).2 (by omega)), hn, Nat.add_sub_cancel_left]

/-- A pixel by the map byte and the two plane bytes: BGP gives the colour index its shade. -/
theorem pixelShade_of_bytes {s : State} {y x : Nat} {idx lo hi : Byte}
    (hidx : s.peek (BitVec.ofNat 16
      (mapBase + 32 * ((y + s.display.scy.toNat) / 8 % 32) + (x + s.display.scx.toNat) / 8 % 32)) = idx)
    (hlo : s.peek (BitVec.ofNat 16 (tileBase + 16 * idx.toNat + 2 * ((y + s.display.scy.toNat) % 8))) = lo)
    (hhi : s.peek (BitVec.ofNat 16 (tileBase + 16 * idx.toNat + 2 * ((y + s.display.scy.toNat) % 8) + 1)) = hi) :
    pixelShade s y x = BitVec.ofNat 2 (s.display.bgp.toNat /
      4 ^ (2 * (hi.toNat / 2 ^ (7 - (x + s.display.scx.toNat) % 8) % 2) +
        lo.toNat / 2 ^ (7 - (x + s.display.scx.toNat) % 8) % 2)) := by
  unfold pixelShade
  dsimp only
  rw [hidx, hlo, hhi, paletteShade_eq_ofNat, toNat_getLsbD, toNat_getLsbD]

/-- A pixel by the bytes of video RAM (R308 to R310): the map names a tile, which has two bytes for each of its rows. -/
theorem pixelShade_eq (s : State) (y x : Nat) :
    let vram := fun i => Memory.get s.bus.vram i
    let sy := y + s.display.scy.toNat
    let sx := x + s.display.scx.toNat
    let tile := (vram (0x1800 + 32 * (sy / 8 % 32) + sx / 8 % 32)).toNat
    let lo := (vram (16 * tile + 2 * (sy % 8))).toNat
    let hi := (vram (16 * tile + 2 * (sy % 8) + 1)).toNat
    let ci := 2 * (hi / 2 ^ (7 - sx % 8) % 2) + lo / 2 ^ (7 - sx % 8) % 2
    pixelShade s y x = BitVec.ofNat 2 (s.display.bgp.toNat / 4 ^ ci) := by
  intro vram sy sx tile lo hi ci
  have htile : tile < 256 := BitVec.isLt _
  exact pixelShade_of_bytes (idx := vram (0x1800 + 32 * (sy / 8 % 32) + sx / 8 % 32))
    (peek_vram_of (n := 0x1800 + 32 * (sy / 8 % 32) + sx / 8 % 32) (by unfold mapBase; omega) (by omega))
    (peek_vram_of (n := 16 * tile + 2 * (sy % 8)) (by unfold tileBase; omega) (by omega))
    (peek_vram_of (n := 16 * tile + 2 * (sy % 8) + 1) (by unfold tileBase; omega) (by omega))

/-- Settles O56: the line's cells are the pixels of LY, and each other cell is kept. -/
theorem rasterizedLine : Obligations.RasterizedLine := by
  unfold Obligations.RasterizedLine
  intro n s hm _ hle hlt y x _ hx t vram sy sx tile lo hi ci
  have hcell : Memory.get t.display.fb (fbKey y x) =
      if y = s.display.ly.toNat then pixelShade s y x else Memory.get s.display.fb (fbKey y x) := by
    rw [advance_rasterizes hm hle hlt, get_rasterized s hx]
  rw [State.pixel, hcell, apply_ite Config.shade, pixelShade_eq]
  rfl

end Sys2Proof.Machine
end

section
/-! Lines and frames (60_exceptions.md R303 to R308). A visible line is 80 + 172 + 204 units and a line of vertical blank
456, so that an advance by 456 leaves the mode clock as it was; a frame is 154 of them. The place where LY moves on is the
spec's own inference (R305). -/

namespace Sys2Proof.Machine

/-! ### A visible line -/

theorem leaveMode_oamScan {s : State} (h : s.display.mode = .oamScan) : leaveMode s = setMode s .pixelTransfer := by
  rw [leaveMode, h]

theorem leaveMode_hblank {s : State} (h : s.display.mode = .hblank) : leaveMode s = hblankEnd s := by
  rw [leaveMode, h]

theorem leaveMode_vblank {s : State} (h : s.display.mode = .vblank) : leaveMode s = vblankLine s := by
  rw [leaveMode, h]

/-- The state at the end of the visible line that `s` stands in, with the clock at 0: drawn, and LY moved on. -/
def visibleLineEnd (s : State) : State :=
  setModeClock (hblankEnd (setModeClock (setMode (rasterize (setModeClock (setMode s .pixelTransfer) 0)) .hblank) 0)) 0

theorem visibleLineEnd_fb (s : State) :
    (visibleLineEnd s).display.fb = rasterizeRow s s.display.ly.toNat 160 :=
  rasterizeRow_congr (s := s) (t := setModeClock (setMode s .pixelTransfer) 0) rfl rfl rfl rfl rfl _ _

theorem visibleLineEnd_ly (s : State) : (visibleLineEnd s).display.ly = s.display.ly + 1 := rfl

theorem visibleLineEnd_mode (s : State) :
    (visibleLineEnd s).display.mode = if s.display.ly + 1 = 144 then .vblank else .oamScan := rfl

theorem visibleLineEnd_frameCount (s : State) : (visibleLineEnd s).display.frameCount = s.display.frameCount := by
  simp [visibleLineEnd]

/-- A visible line lasts 80, 172 and 204 units. -/
theorem advance_line_of_oamScan {s : State} (hm : s.display.mode = .oamScan) :
    advance 456 s = advance s.display.modeClock (visibleLineEnd s) := by
  rw [advance_of_le (k := 80) (congrArg threshold hm) (by omega) rfl, leaveMode_oamScan hm]
  rw [advance_of_le (k := 172) rfl (by rw [setModeClock_modeClock]; omega) rfl, leaveMode_pixelTransfer rfl]
  rw [advance_of_le (k := 204) rfl (by rw [setModeClock_modeClock, setModeClock_modeClock]; omega) rfl,
    leaveMode_hblank rfl]
  have hrest : 0 + (0 + (s.display.modeClock + 456 - 80) - 172) - 204 = s.display.modeClock := by omega
  simp only [setModeClock_modeClock]
  rw [hrest, visibleLineEnd]

/-- What 456 units do to the timer: the line drawn or not, and LY, the mode and the frame count of `u`, the clock kept. -/
structure LineStep (s u t : State) : Prop where
  ly : t.display.ly = u.display.ly
  mode : t.display.mode = u.display.mode
  frameCount : t.display.frameCount = u.display.frameCount
  fb : t.display.fb = u.display.fb
  modeClock : t.display.modeClock = s.display.modeClock

/-- An advance that only adds to a clock of 0. -/
theorem lineStep_advance {s u : State} (h0 : u.display.modeClock = 0)
    (hlt : s.display.modeClock < threshold u.display.mode) : LineStep s u (advance s.display.modeClock u) := by
  rw [advance_of_lt (by rwa [h0, Nat.zero_add]), h0, Nat.zero_add]
  exact ⟨rfl, rfl, rfl, rfl, rfl⟩

theorem lineStep_visible {s : State} (hm : s.display.mode = .oamScan) (hc : s.display.modeClock < 80) :
    LineStep s (visibleLineEnd s) (advance 456 s) := by
  rw [advance_line_of_oamScan hm]
  refine lineStep_advance rfl (Nat.lt_of_lt_of_le hc ?_)
  rw [visibleLineEnd_mode]
  split <;> decide

/-- The mode that a visible line ends in. -/
theorem visibleLineEnd_mode_of_lt {s : State} (h : s.display.ly.toNat < 144) :
    (visibleLineEnd s).display.mode = if s.display.ly.toNat = 143 then .vblank else .oamScan :=
  (visibleLineEnd_mode s).trans (if_congr (by bv_omega) rfl rfl)

/-- Settles O57: the three visible modes of the line, and the clock as it was. -/
theorem visibleLine : Obligations.VisibleLine := by
  unfold Obligations.VisibleLine
  intro s hm hly hc
  obtain ⟨hly', hmode, hframe, -, hclock⟩ := lineStep_visible hm hc
  exact ⟨hly'.trans (visibleLineEnd_ly s), hclock, hframe.trans (visibleLineEnd_frameCount s),
    hmode.trans (visibleLineEnd_mode_of_lt hly)⟩

/-! ### A line of vertical blank -/

theorem lineStep_vblank {s : State} (hm : s.display.mode = .vblank) (hc : s.display.modeClock < 80) :
    LineStep s (setModeClock (vblankLine s) 0) (advance 456 s) := by
  rw [advance_of_le (k := 456) (congrArg threshold hm) (by omega) rfl, leaveMode_vblank hm, Nat.add_sub_cancel]
  refine lineStep_advance rfl (Nat.lt_of_lt_of_le hc ?_)
  cases (setModeClock (vblankLine s) 0).display.mode <;> decide

/-! ### A frame -/

/-- Between advances a pixel stays what it is: the timer writes neither video RAM nor SCY, SCX and BGP. -/
theorem pixelShade_advance (n : Nat) (s : State) (y x : Nat) : pixelShade (advance n s) y x = pixelShade s y x := by
  obtain ⟨-, hscy, hscx, -, hbgp, -⟩ := advance_sameRegisters n s
  exact pixelShade_congr (congrArg AddressSpace.vram (advance_bus n s)) hscy hscx hbgp y x

/-- `t` stands at line `k` of the frame that began in `s`, `k` lines of 456 units later. -/
structure LinesDone (s : State) (k : Nat) (t : State) : Prop where
  ly : t.display.ly.toNat = k
  mode : t.display.mode = if k < 144 then .oamScan else .vblank
  modeClock : t.display.modeClock = s.display.modeClock
  frameCount : t.display.frameCount = s.display.frameCount
  drawn : ∀ y x, y < k → y < 144 → x < 160 → Memory.get t.display.fb (fbKey y x) = pixelShade s y x

theorem linesDone_zero {s : State} (hm : s.display.mode = .oamScan) (hl : s.display.ly = 0)
    (hc : s.display.modeClock < 80) : LinesDone s 0 (advance 0 s) := by
  rw [advance_of_lt (by rw [hm]; exact hc)]
  exact ⟨congrArg BitVec.toNat hl, hm, rfl, rfl, fun _ _ h => absurd h (Nat.not_lt_zero _)⟩

/-- A visible line is drawn, and the next is a visible line or the first of vertical blank. -/
theorem LinesDone.visible {s t : State} {k : Nat} (h : LinesDone s k t) (hk : k < 144)
    (hc : s.display.modeClock < 80) (hp : ∀ y x, pixelShade t y x = pixelShade s y x) :
    LinesDone s (k + 1) (advance 456 t) := by
  have hmode := h.mode.trans (if_pos hk)
  have hly : t.display.ly.toNat < 144 := h.ly ▸ hk
  obtain ⟨hly', hmode', hframe, hfb, hclock⟩ := lineStep_visible hmode (h.modeClock ▸ hc)
  refine ⟨?_, ?_, hclock.trans h.modeClock, ?_, fun y x hy hy144 hx => ?_⟩
  · have hnext : (t.display.ly + 1).toNat = t.display.ly.toNat + 1 := by bv_omega
    rw [hly', visibleLineEnd_ly, hnext, h.ly]
  · rw [hmode', visibleLineEnd_mode_of_lt hly, h.ly]
    by_cases h143 : k = 143
    · rw [if_pos h143, if_neg (by omega)]
    · rw [if_neg h143, if_pos (by omega)]
  · rw [hframe, visibleLineEnd_frameCount, h.frameCount]
  · rw [hfb, visibleLineEnd_fb, get_rasterized t hx, h.ly]
    by_cases hyk : y = k
    · rw [if_pos hyk, hp]
    · rw [if_neg hyk]
      exact h.drawn y x (by omega) hy144 hx

/-- A line of vertical blank draws nothing, and is followed by another up to line 153. -/
theorem LinesDone.vblank {s t : State} {k : Nat} (h : LinesDone s k t) (hk : 144 ≤ k) (hk' : k < 153)
    (hc : s.display.modeClock < 80) : LinesDone s (k + 1) (advance 456 t) := by
  have hmode := h.mode.trans (if_neg (Nat.not_lt.mpr hk))
  have hly := h.ly
  have hne : ¬ t.display.ly = 153 := by bv_omega
  obtain ⟨hly', hmode', hframe, hfb, hclock⟩ := lineStep_vblank hmode (h.modeClock ▸ hc)
  refine ⟨?_, ?_, hclock.trans h.modeClock, ?_, fun y x _ hy144 hx => ?_⟩
  · have hnext : (t.display.ly + 1).toNat = t.display.ly.toNat + 1 := by bv_omega
    rw [hly', setModeClock_ly, vblankLine_ly, if_neg hne, hnext, h.ly]
  · rw [hmode', setModeClock_mode, vblankLine_mode, if_neg hne, hmode, if_neg (by omega)]
  · rw [hframe, setModeClock_frameCount, vblankLine_frameCount, if_neg hne, h.frameCount]
  · rw [hfb, setModeClock_fb, vblankLine_fb]
    exact h.drawn y x (by omega) hy144 hx

theorem linesDone {s : State} (hm : s.display.mode = .oamScan) (hl : s.display.ly = 0)
    (hc : s.display.modeClock < 80) {k : Nat} (hk : k ≤ 153) : LinesDone s k (advance (456 * k) s) := by
  induction k with
  | zero => exact linesDone_zero hm hl hc
  | succ k ih =>
    have hline := ih (by omega)
    rw [Nat.mul_succ, ← advance_advance]
    by_cases h144 : k < 144
    · exact hline.visible h144 hc (pixelShade_advance _ s)
    · exact hline.vblank (by omega) (by omega) hc

/-- The last line of vertical blank wraps LY, counts the frame and begins the next with every line drawn (R306). -/
theorem LinesDone.last {s t : State} (h : LinesDone s 153 t) (hc : s.display.modeClock < 80) :
    let u := advance 456 t
    u.display.ly = 0 ∧ u.display.mode = .oamScan ∧ u.display.modeClock = s.display.modeClock ∧
      u.display.frameCount = s.display.frameCount + 1 ∧
      ∀ y x, y < 144 → x < 160 → u.pixel y x = Config.shade (pixelShade s y x) := by
  have hwrap : t.display.ly = 153 := BitVec.eq_of_toNat_eq h.ly
  obtain ⟨hly, hmode, hframe, hfb, hclock⟩ := lineStep_vblank h.mode (h.modeClock ▸ hc)
  refine ⟨?_, ?_, hclock.trans h.modeClock, ?_, fun y x hy hx => ?_⟩
  · rw [hly, setModeClock_ly, vblankLine_ly, if_pos hwrap]
  · rw [hmode, setModeClock_mode, vblankLine_mode, if_pos hwrap]
  · rw [hframe, setModeClock_frameCount, vblankLine_frameCount, if_pos hwrap, h.frameCount]
  · rw [State.pixel, hfb, setModeClock_fb, vblankLine_fb, h.drawn y x (by omega) hy hx]

/-- Settles O58: 153 lines from the top of the frame, then the last one. -/
theorem wholeFrame : Obligations.WholeFrame := by
  unfold Obligations.WholeFrame
  intro s hm hl hc
  have hsum : advance 70224 s = advance 456 (advance (456 * 153) s) := (advance_advance 456 (456 * 153) s).symm
  rw [hsum]
  exact (linesDone hm hl hc (Nat.le_refl 153)).last hc

end Sys2Proof.Machine
end
